-- ==== Sys2Proof/Word.lean ====
section
/-! DEFINITION. The word types of the WZ-714 model: a byte as a master, the memory or a field module sees it,
and the 16-bit word of the check words, the check sum and the event registers. -/

namespace Sys2Proof

/-- One byte of a frame, of the configuration image or of a field module. -/
abbrev Byte := BitVec 8

/-- A 16-bit word: an event set (11.2), a check word (R163), a CRC-16 (R179). -/
abbrev Word := BitVec 16

end Sys2Proof
end

