-- ==== Sys2Proof/Syntax.lean ====
section
/-! DEFINITION. The commands of the WZ-714: one constructor of `Instr` for each row of spec/opcode_table.json, in the
table's order, with the operands that the rules give the row. A request row carries the link it came on (R179). A number
that a master sends is a natural number here, and `Instr.wf` (WellFormed.lean) says which numbers its field on the line can
carry (11.4). -/

namespace Sys2Proof

/-- The three master links (0.1): the fire link F, the office link O, the engine-room link E. -/
inductive LinkId where
  | F
  | O
  | E
deriving DecidableEq, Repr

/-- What the part finds on its pins when a reset begins: the straps (R176), the filtered encoder levels (R24), the level of
the hardwired fire input (R3) and of the player's READY line (R156). -/
structure Pins where
  /-- The five address strap pins (R176). -/
  address : Nat
  /-- The two rate pins of the fire link: 0 to 3 for 9,600, 19,200, 38,400 and 57,600 bit/s (R176). -/
  rateF : Nat
  /-- The two rate pins of the office link. -/
  rateO : Nat
  /-- The two rate pins of the engine-room link. -/
  rateE : Nat
  /-- The filtered level of encoder channel A. -/
  encA : Bool
  /-- The filtered level of encoder channel B. -/
  encB : Bool
  /-- The hardwired fire input pin: `true` while the loop of contacts is open. -/
  fireOpen : Bool
  /-- The READY line: `true` while it is high (the player is not ready). -/
  readyHigh : Bool
deriving DecidableEq, Repr

/-- The commands: requests of the masters, events of the pins and the plant, and the ends of the part's own times. One
constructor for each row of spec/opcode_table.json. -/
inductive Instr where
  /-- POWER_ON_RESET (R124, R192). -/
  | powerOnReset (pins : Pins)
  /-- EXTERNAL_RESET (R192). -/
  | externalReset (pins : Pins)
  /-- IMAGE_READ_DONE (R192): the bytes read from address 0 of the memory. -/
  | imageReadDone (memory : List Byte)
  /-- LOADING_TIMEOUT (R192). -/
  | loadingTimeout
  /-- ENTER_SUPERVISING (R193). -/
  | enterSupervising
  /-- REQUEST_FRAME (R179): LEN, KIND, the payload and the two CRC bytes of a complete frame addressed to the part. -/
  | requestFrame (l : LinkId) (frame : List Byte)
  /-- INTER_CHARACTER_TIMEOUT (R178). -/
  | interCharacterTimeout (l : LinkId)
  /-- REPLY_DUE (R182). -/
  | replyDue (l : LinkId)
  /-- REPLY_LEAD_END (R182). -/
  | replyLeadEnd (l : LinkId)
  /-- REPLY_SEND_DONE (R182). -/
  | replySendDone (l : LinkId)
  /-- REPLY_TAIL_END (R182). -/
  | replyTailEnd (l : LinkId)
  /-- LINK_SUPERVISION_EXPIRY (R184). -/
  | linkSupervisionExpiry (l : LinkId)
  /-- ATTENTION_HOLDOFF_END (R188). -/
  | attentionHoldoffEnd (l : LinkId)
  /-- READ_FLOORS (R13). -/
  | readFloors (l : LinkId) (part : Nat)
  /-- READ_ZONES (R13). -/
  | readZones (l : LinkId) (part : Nat)
  /-- READ_PATERNOSTER (R66, R38). -/
  | readPaternoster (l : LinkId) (part : Nat)
  /-- READ_SHUTTERS (R94). -/
  | readShutters (l : LinkId) (first : Nat)
  /-- READ_CALLS (R118). -/
  | readCalls (l : LinkId) (first : Nat)
  /-- READ_BELL_LINES (R119). -/
  | readBellLines (l : LinkId) (line : Nat)
  /-- READ_QUEUE (R159). -/
  | readQueue (l : LinkId) (part slot : Nat)
  /-- READ_FAULTS (R21). -/
  | readFaults (l : LinkId) (first : Nat)
  /-- READ_CLOCK (R126). -/
  | readClock (l : LinkId)
  /-- READ_PLAN (R142). -/
  | readPlan (l : LinkId) (part : Nat)
  /-- READ_ANALOG (R174). -/
  | readAnalog (l : LinkId) (part : Nat)
  /-- READ_LINK (R189). -/
  | readLink (l : LinkId) (clear : Nat)
  /-- READ_EVENTS (R187). -/
  | readEvents (l : LinkId)
  /-- ACK_EVENTS (R187). -/
  | ackEvents (l : LinkId) (set : Word)
  /-- SET_EVENT_MASK (R187). -/
  | setEventMask (l : LinkId) (mask : Word)
  /-- ZONE_ALARM (R5). -/
  | zoneAlarm (l : LinkId) (zone : Nat)
  /-- ZONE_CLEAR (R6). -/
  | zoneClear (l : LinkId) (zone : Nat)
  /-- GENERAL_ALARM_ON (R7): GENERAL_ALARM with the field on. -/
  | generalAlarmOn (l : LinkId)
  /-- GENERAL_ALARM_OFF (R7): GENERAL_ALARM with the field off. -/
  | generalAlarmOff (l : LinkId)
  /-- FIRE_SILENCE (R8). -/
  | fireSilence (l : LinkId)
  /-- FIRE_RESTORE (R9). -/
  | fireRestore (l : LinkId)
  /-- FIRE_INPUT_CHANGE (R3): the pin is now open (`true`) or closed. -/
  | fireInputChange (isOpen : Bool)
  /-- FIRE_INPUT_DEBOUNCE_END (R3). -/
  | fireInputDebounceEnd
  /-- OPEN_STORE (R12). -/
  | openStore (l : LinkId)
  /-- FAULT_CLEAR (R19) naming one record by kind and source; kind 255 names all (11.4). -/
  | faultClear (l : LinkId) (kind source : Nat)
  /-- FAULT_CLEAR_ALL (R19): FAULT_CLEAR naming all records. -/
  | faultClearAll (l : LinkId)
  /-- ENCODER_TRANSITION (R24): the pair of filtered levels (A, B) now found. -/
  | encoderTransition (a b : Bool)
  /-- INDEX_PULSE (R28). -/
  | indexPulse
  /-- SPEED_WINDOW_END (R35). -/
  | speedWindowEnd
  /-- QUIET_TIME_EXPIRY (R36). -/
  | quietTimeExpiry
  /-- BRAKE_APPLIED_8S (R37). -/
  | brakeApplied8s
  /-- PATERNOSTER_START (R45). -/
  | paternosterStart (l : LinkId)
  /-- ACCEL_RAMP_STEP (R48). -/
  | accelRampStep
  /-- LEVEL_PROFILE_EVAL (R54). -/
  | levelProfileEval
  /-- PATERNOSTER_STOP (R53). -/
  | paternosterStop (l : LinkId)
  /-- FIRE_DEADLINE_EXPIRY (R57). -/
  | fireDeadlineExpiry
  /-- STOP_NOW (R59). -/
  | stopNow (l : LinkId)
  /-- HALT_RESET (R63). -/
  | haltReset (l : LinkId)
  /-- INCH (R64): direction 0 FORWARD, 1 REVERSE (11.4). -/
  | inch (l : LinkId) (direction : Nat)
  /-- INCH_RAMP_STEP (R64). -/
  | inchRampStep
  /-- INCH_LEASE_EXPIRY (R65). -/
  | inchLeaseExpiry
  /-- DROP_TIMER_EXPIRY (R74) of one shutter. -/
  | dropTimerExpiry (shutter : Nat)
  /-- TRAVEL_TIMER_EXPIRY (R78) of one shutter. -/
  | travelTimerExpiry (shutter : Nat)
  /-- SHUTTER_TEST (R87). -/
  | shutterTest (l : LinkId) (shutter : Nat)
  /-- SHUTTER_RAISE (R88). -/
  | shutterRaise (l : LinkId) (shutter : Nat)
  /-- SHUTTER_INHIBIT_ON (R89): SHUTTER_INHIBIT with the field on. -/
  | shutterInhibitOn (l : LinkId) (shutter : Nat)
  /-- SHUTTER_INHIBIT_OFF (R90): SHUTTER_INHIBIT with the field off. -/
  | shutterInhibitOff (l : LinkId) (shutter : Nat)
  /-- STROKE_START (R100): the next stroke of the pattern on one line. -/
  | strokeStart (line : Nat)
  /-- STROKE_END (R98) on one line. -/
  | strokeEnd (line : Nat)
  /-- PATTERN_END (R109) on one line. -/
  | patternEnd (line : Nat)
  /-- FIRE_RING_STROKE (R100) on one line. -/
  | fireRingStroke (line : Nat)
  /-- CALL_REPEAT_DUE (R106) of the call entry with this call_id. -/
  | callRepeatDue (callId : Nat)
  /-- WRITE_CODE (R102): a group count and four stroke counts, of which the first `count` are the groups (11.4). -/
  | writeCode (l : LinkId) (code count : Nat) (strokes : List Nat) (mask : Word)
  /-- CANCEL_CALL (R116). -/
  | cancelCall (l : LinkId) (callPoint : Nat)
  /-- CLEAR_CALLS (R117). -/
  | clearCalls (l : LinkId)
  /-- SECOND_TICK (R122). -/
  | secondTick
  /-- POSITION_WAIT_EXPIRY (R138). -/
  | positionWaitExpiry
  /-- SET_CLOCK (R125). -/
  | setClock (l : LinkId) (count : Nat)
  /-- WRITE_SCHEDULE (R127): a closing of 0xFFFFFFFF is NONE (11.2). -/
  | writeSchedule (l : LinkId) (weekday closing : Nat)
  /-- WRITE_EXCEPTION (R128): a closing of 0xFFFFFFFF is NONE and of 0xFFFFFFFE REMOVE (11.2, 11.4). -/
  | writeException (l : LinkId) (day closing : Nat)
  /-- WRITE_PLAN (R130). -/
  | writePlan (l : LinkId) (w1 w2 stagger : Nat) (order : List Nat)
  /-- HOLD_CLOSING (R139). -/
  | holdClosing (l : LinkId) (minutes : Nat)
  /-- CLOSE_NOW (R141). -/
  | closeNow (l : LinkId)
  /-- WRITE_SCRIPT (R145): the speaker floor mask takes one bit per floor (11.2). -/
  | writeScript (l : LinkId) (slot mask : Nat) (phrases : List Nat)
  /-- QUEUE_ANNOUNCEMENT (R148). -/
  | queueAnnouncement (l : LinkId) (slot : Nat)
  /-- CANCEL_ANNOUNCEMENT (R150). -/
  | cancelAnnouncement (l : LinkId) (slot : Nat)
  /-- PLAYOUT_LEAD_END (R152). -/
  | playoutLeadEnd
  /-- PLAYOUT_GAP_END (R152). -/
  | playoutGapEnd
  /-- PLAYOUT_TAIL_END (R153). -/
  | playoutTailEnd
  /-- EVAC_GAP_EXPIRY (R154). -/
  | evacGapExpiry
  /-- PLAYER_EXCHANGE_END (R157): the status word clocked in. -/
  | playerExchangeEnd (status : Word)
  /-- PLAYER_READY_CHANGE (R156): READY is now high (`true`) or low. -/
  | playerReadyChange (high : Bool)
  /-- START_TIMER_EXPIRY (R156). -/
  | startTimerExpiry
  /-- PHRASE_TIMER_EXPIRY (R156). -/
  | phraseTimerExpiry
  /-- ABORT_WAIT_EXPIRY (R156). -/
  | abortWaitExpiry
  /-- PLAYER_RECOVERY (R158). -/
  | playerRecovery
  /-- PLAYER_START_UP_CHECK (R160). -/
  | playerStartUpCheck
  /-- SCAN_START (R163). -/
  | scanStart
  /-- SCAN_END (R163): the word that returned round the ring and the input byte of each module, module 0 first. -/
  | scanEnd (returned : Word) (inputs : List Byte)
  /-- ANALOG_SAMPLE (R170, R172): the six converted samples, channel 0 first, before the reading saturates. -/
  | analogSample (samples : List Int)
  /-- ANALOG_BLANKING_END (R171) of one channel. -/
  | analogBlankingEnd (channel : Nat)
  /-- CONFIG_BEGIN (R195). -/
  | configBegin (l : LinkId)
  /-- CONFIG_WRITE (R196). -/
  | configWrite (l : LinkId) (sect offset : Nat) (bytes : List Byte)
  /-- CONFIG_ABORT (R197). -/
  | configAbort (l : LinkId)
  /-- CONFIG_END (R198). -/
  | configEnd (l : LinkId)
  /-- CONFIG_SAVE (R199). -/
  | configSave (l : LinkId)
  /-- SAVE_PAGE_READY (R199). -/
  | savePageReady
  /-- SAVE_BUSY_TIMEOUT (R199). -/
  | saveBusyTimeout
  /-- SAVE_READBACK_DONE (R199): the image read back. -/
  | saveReadbackDone (memory : List Byte)
  /-- SAVE_TIME_LIMIT (R199). -/
  | saveTimeLimit
  /-- CHARACTER_RECEIVED (R177): the mark bit, the data byte, and whether the stop bit was found at mark (R176). -/
  | characterReceived (l : LinkId) (mark : Bool) (byte : Byte) (stopOk : Bool)
  /-- LINE_START_BIT_SEEN (R182). -/
  | lineStartBitSeen (l : LinkId)
deriving DecidableEq, Repr

end Sys2Proof
end

