-- ==== Sys2Proof/Decode.lean ====
section
/-! DEFINITION. What an opcode word spells. spec/opcode_table.json gives no row any bits (a row is a request, an event or a time, and
a request comes as a frame of 11.4, not as a word), so no word spells a command. -/

namespace Sys2Proof

/-- The command that a word of the table spells: none of its rows has bits. -/
def decodeTableWord (_nbits _w : Nat) : Option Instr := none

end Sys2Proof
end

