-- ==== Sys2Proof/Config.lean ====
section
/-! DEFINITION. What an installation fixes: the engineering part and the operating part of the configuration image
(chapter 10, section 11.7) as records, one field for each item of a section, and the free values, which the spec leaves
open. A point is the byte 8·m + b of 11.7. -/

namespace Sys2Proof

/-- One shutter record of section 4: floor, kind (0 STAIR, 1 WELL, 2 PARTITION, 3 PATERNOSTER), side (0 UP, 1 DOWN, 0xFF
absent), zone mask, t_drop and t_travel in seconds, and the five points (R68). -/
structure ShutterCfg where
  floor : Nat
  kind : Nat
  side : Nat
  zoneMask : Nat
  tDrop : Nat
  tTravel : Nat
  openPt : Nat
  closedPt : Nat
  holdPt : Nat
  upPt : Nat
  downPt : Nat
deriving DecidableEq, Repr

/-- A shutter of kind PATERNOSTER guards a landing opening (R68). -/
def ShutterCfg.isPaternoster (c : ShutterCfg) : Bool := c.kind == 3

/-- One call point of section 5: input point, floor, code (R103). -/
structure CallPointCfg where
  input : Nat
  floor : Nat
  code : Nat
deriving DecidableEq, Repr

/-- One bell line of section 5: drive output, current-sense input, answer push input (R97). -/
structure LineCfg where
  drive : Nat
  sense : Nat
  answer : Nat
deriving DecidableEq, Repr

/-- One link of section 7: supervision time in seconds (0 is off), lead and tail in bit times (R182, R184). -/
structure LinkCfg where
  supervision : Nat
  lead : Nat
  tail : Nat
deriving DecidableEq, Repr

/-- One analog channel of section 8: thresholds, count K and hysteresis h (R170). -/
structure ChanCfg where
  low : Nat
  high : Nat
  k : Nat
  h : Nat
deriving DecidableEq, Repr

/-- The engineering part: sections 1 to 9 of the image (11.7), every entry of every list, in use or not. -/
structure Eng where
  /-- Section 1: F, the sixteen zone floors, eight pairs of lamp points, eight speaker relay points. -/
  floorCount : Nat
  zoneFloors : List Nat
  lamps : List Nat
  speakers : List Nat
  /-- Section 2: N, P, the level phase, the slip tolerance, sixteen landing points. -/
  cars : Nat
  pitch : Nat
  phase : Nat
  slip : Nat
  landings : List Nat
  /-- Section 3: the drive parameters of R41. -/
  vRun : Nat
  vCreep : Nat
  vFull : Nat
  vInch : Nat
  accel : Nat
  levelTol : Nat
  fireDeadline : Nat
  trips : List Nat
  reversePt : Nat
  /-- Section 4: M, S, thirty-two shutters. -/
  slotCount : Nat
  shutterCount : Nat
  shutters : List ShutterCfg
  /-- Section 5: T_repeat, N_repeat, the call point count, sixty-four call points, nine lines. -/
  tRepeat : Nat
  nRepeat : Nat
  callCount : Nat
  callPoints : List CallPointCfg
  lines : List LineCfg
  /-- Section 6: the module count n. -/
  modules : Nat
  /-- Section 7: the links F, O, E. -/
  linkF : LinkCfg
  linkO : LinkCfg
  linkE : LinkCfg
  /-- Section 8: six analog channels. -/
  analog : List ChanCfg
  /-- Section 9: the signed trim and the epoch weekday. -/
  trim : Int
  epoch : Nat
deriving DecidableEq, Repr

/-- The engineering part whose every byte is 0: what the blocks would read with none applied, and the shadow that
CONFIG_BEGIN makes where no reading passed (R195). -/
def Eng.zero : Eng where
  floorCount := 0
  zoneFloors := List.replicate 16 0
  lamps := List.replicate 16 0
  speakers := List.replicate 8 0
  cars := 0
  pitch := 0
  phase := 0
  slip := 0
  landings := List.replicate 16 0
  vRun := 0
  vCreep := 0
  vFull := 0
  vInch := 0
  accel := 0
  levelTol := 0
  fireDeadline := 0
  trips := List.replicate 16 0
  reversePt := 0
  slotCount := 0
  shutterCount := 0
  shutters := List.replicate 32 ⟨0, 0, 0, 0, 0, 0, 0, 0, 0, 0, 0⟩
  tRepeat := 0
  nRepeat := 0
  callCount := 0
  callPoints := List.replicate 64 ⟨0, 0, 0⟩
  lines := List.replicate 9 ⟨0, 0, 0⟩
  modules := 0
  linkF := ⟨0, 0, 0⟩
  linkO := ⟨0, 0, 0⟩
  linkE := ⟨0, 0, 0⟩
  analog := List.replicate 6 ⟨0, 0, 0, 0⟩
  trim := 0
  epoch := 0

/-- One entry of the exception list (R128): a closing second of day, or `none` for NONE. -/
structure PlanException where
  day : Nat
  closing : Option Nat
deriving DecidableEq, Repr

/-- One code of the code table (R101): its groups of strokes and its line mask, bit 8 for CH. -/
structure CodeDef where
  groups : List Nat
  mask : Nat
deriving DecidableEq, Repr

/-- One copy of a script (R144): phrase numbers in playing order and the speaker floor mask. -/
structure Copy where
  phrases : List Nat
  mask : Nat
deriving DecidableEq, Repr

/-- The operating part: sections 16 to 20 of the image, what the office keeps. -/
structure Op where
  /-- The weekday schedule, Monday first (R127). -/
  schedule : List (Option Nat)
  /-- The exception list, in day order (R128). -/
  exceptions : List PlanException
  /-- W1 and W2 in minutes and S in seconds (R130). -/
  w1 : Nat
  w2 : Nat
  stagger : Nat
  /-- The closing order. -/
  order : List Nat
  /-- Codes 1 to 31, code k at place k − 1 (R101). -/
  codes : List CodeDef
  /-- The current copy of each of the eight script slots (R144). -/
  scripts : List (Option Copy)
deriving DecidableEq, Repr

/-- The defaults of the operating part (R101, R143, R193): no closing, no exception, no lead, no order, the default codes
and empty scripts. The mask of codes 4 to 31 names every floor line, 0 to 7. -/
def Op.default : Op where
  schedule := List.replicate 7 none
  exceptions := []
  w1 := 0
  w2 := 0
  stagger := 0
  order := []
  codes := [⟨[3, 3], 0⟩, ⟨[1, 1, 1, 1], 0⟩, ⟨[5], 0⟩] ++ List.replicate 28 ⟨[1], 0xFF⟩
  scripts := List.replicate 8 none

/-- FREE VALUE. The twenty-fourth byte of a call entry in a READ_CALLS reply: 11.4 gives the entry 24 bytes and R118 gives
it fields of 23. DESIGN CHOICE: nothing is assumed about the byte left over (notes/assumptions/3.md). -/
opaque Config.callEntryPad : Byte

/-- FREE VALUE. Whether the reading that timed out had passed the marker, format and length tests by then (R192, R195), one value
for each such reading: LOADING_TIMEOUT has no operand that says how far the reading went (notes/assumptions/29.md). -/
opaque Config.timedOutPassed : Nat → Bool

/-- FREE VALUE. The bytes of the engineering part that a reading that timed out had read, by the reading and the place
(R192, R195, notes/assumptions/29.md). -/
opaque Config.timedOutByte : Nat → Nat → Byte

end Sys2Proof
end

