-- ==== Sys2Proof/Machine/State.lean ====
section
/-! DEFINITION. The state of the WZ-714 as plain data: one record for each of the twelve blocks of 0.2, the queue of waiting
commands, and the machine right after power-on reset. Docstrings name the rule that gives a field. A time is in milliseconds
unless its rule says otherwise. -/

namespace Sys2Proof.Machine

/-! ### Floors, zones and the fault table (chapter 1) -/

/-- A floor's trading or fire state (R1), in the order of R1. -/
inductive FloorMode where
  | opened
  | warned
  | closing
  | closed
  | opening
  | fire
deriving DecidableEq, Repr

/-- The causes that have reached a floor in FIRE (R1). -/
inductive FireCause where
  | zone
  | general
  | both
deriving DecidableEq, Repr

/-- One floor record (R1). -/
structure Floor where
  mode : FloorMode
  /-- Present only while the mode is FIRE. -/
  cause : Option FireCause
  modeSince : Nat
  closingPosition : Nat
  /-- `boarding`: `true` is LIT, `false` is DARK (R14). -/
  lit : Bool
deriving DecidableEq, Repr

/-- One zone record (R2): `alarm` is the state, ALARM or CLEAR. -/
structure Zone where
  alarm : Bool
  floor : Nat
  since : Nat
deriving DecidableEq, Repr

/-- The Floor and Zone Table: floors 0 to F−1, the sixteen zones, the fire-link general-alarm flag, the hardwired input's pin
level, debounced state and running debounce (R3), and the fire silence flag (R8). -/
structure Floors where
  table : List Floor
  zones : List Zone
  gaFlag : Bool
  /-- The pin's level: `true` while open. -/
  pinOpen : Bool
  /-- The debounced state of the hardwired input: `true` is in alarm. -/
  inputAlarm : Bool
  /-- What is left of the 200 ms that the pin must hold its level; absent once it has held it. -/
  debounceLeft : Option Nat
  /-- Set once the pin has first held one level for 200 ms since start-up (R193). -/
  settled : Bool
  silence : Bool
deriving DecidableEq, Repr

/-- The fault kinds, in the order of R15. -/
inductive FaultKind where
  | trip
  | overspeed
  | stall
  | overload
  | chainSlip
  | indexMissing
  | encoder
  | patShutterOpened
  | levelMiss
  | fireStopUnlevelled
  | stillUnconfirmed
  | shutterJam
  | shutterDrift
  | limitConflict
  | bellLine
  | callsDropped
  | loop
  | player
  | linkLost
  | supplyLow
  | clockNotSet
  | configBad
  | configSaveFailed
deriving DecidableEq, Repr

/-- The class of a fault kind (1.7). -/
inductive FaultClass where
  | latched
  | condition
  | occurrence
deriving DecidableEq, Repr

/-- One fault record (R15); `active` is the state, ACTIVE or CLEARED. The class follows from the kind. -/
structure FaultRec where
  kind : FaultKind
  source : Nat
  firstRaised : Nat
  lastRaised : Nat
  occurrences : Nat
  active : Bool
deriving DecidableEq, Repr

/-- The Fault Table: the records in the order in which they were first recorded, and the table-full flag (R15, R17). -/
structure Faults where
  records : List FaultRec
  full : Bool
deriving DecidableEq, Repr

/-! ### The chain and the drive (chapters 2 and 3) -/

/-- Direction of a tick, of inching (R23, R41). -/
inductive Direction where
  | forward
  | reverse
deriving DecidableEq, Repr

/-- The tracker record (R23), the pair of encoder levels last recorded (R24) and the time left in the speed window (R35). -/
structure Tracker where
  counter : Nat
  direction : Direction
  referenced : Bool
  travel : Nat
  lastDeviation : Option Int
  lastCorrection : Option Int
  errorCount : Nat
  pitchTravel : Nat
  windowTicks : Nat
  measuredSpeed : Nat
  quietTime : Nat
  brakeAppliedTime : Nat
  /-- `true` is DEEMED_STILL, `false` is MOVING. -/
  still : Bool
  unconfirmedRaised : Bool
  encA : Bool
  encB : Bool
  windowLeft : Nat
deriving DecidableEq, Repr

/-- The paternoster states, in the order of R41. -/
inductive DriveState where
  | off
  | warning
  | reference
  | accel
  | run
  | lastrun
  | level
  | brake
  | halt
  | inch
deriving DecidableEq, Repr

/-- A state that BRAKE may leave for, and that inching may have started from (R41). -/
inductive Rest where
  | off
  | halt
deriving DecidableEq, Repr

/-- The cause of the most recent entry to LEVEL or BRAKE (R41). -/
inductive StopCause where
  | stopRequest
  | stopNow
  | closing
  | fire
  | fireDeadline
  | inchEnd
  | fault (k : FaultKind)
deriving DecidableEq, Repr

/-- The phase of a levelled stop (3.5). -/
inductive LevelPhase where
  | travel
  | settling
  | ended
deriving DecidableEq, Repr

/-- The levelled-stop record (3.5); `missRaised` notes that LEVEL_MISS has been raised for this stop (R55), and `evalLeft`
is the time to the next evaluation of the profile (R54). -/
structure LevelRec where
  vNow : Nat
  dReq : Nat
  r0 : Nat
  r : Nat
  phase : LevelPhase
  deadline : Option Nat
  overrun : Nat
  missRaised : Bool
  evalLeft : Nat
deriving DecidableEq, Repr

/-- The inching fields present in INCH (R41). `scanBegun` notes that a scan has begun since the acceptance (R64, R168). -/
structure InchRec where
  direction : Direction
  lease : Nat
  started : Bool
  scanBegun : Bool
deriving DecidableEq, Repr

/-- The drive record (R41). The output code follows from `vRef` (R43). `rampLeft` is the time to the next 10 ms step of a
ramp (R48, R64), and `wasReleased` notes that the brake has been released since start-up, before which `sinceRelease` is 0 (R41,
R67). -/
structure Drive where
  state : DriveState
  vRef : Nat
  /-- The brake output: `true` is RELEASED (energised), `false` APPLIED. -/
  released : Bool
  enable : Bool
  reverse : Bool
  brakeExit : Option Rest
  stopCause : Option StopCause
  haltCause : Option FaultKind
  warningLines : Option (List Nat)
  lastrunTravel : Option Nat
  level : Option LevelRec
  overspeedCount : Nat
  stallCount : Nat
  sinceRelease : Nat
  inch : Option InchRec
  inchOrigin : Option Rest
  rampLeft : Nat
  wasReleased : Bool
deriving DecidableEq, Repr

/-! ### The shutters (chapter 4) -/

/-- A powered travel (R68). -/
inductive Travel where
  | up
  | down
deriving DecidableEq, Repr

/-- What a shutter in WAIT_STILL will do (R68). -/
inductive WaitPurpose where
  | drop
  | lower
deriving DecidableEq, Repr

/-- The shutter states (R69), each with what R68 makes present in it: direction_wanted, wait_purpose, the timer. The motor
follows from the state. -/
inductive ShutterState where
  | opened
  | waitSlot (wanted : Travel)
  | lowering (timer : Nat)
  | raising (timer : Nat)
  | waitStill (purpose : WaitPurpose)
  | dropping (timer : Option Nat)
  | closed
  | jammed
  | inhibited
  | unknown
deriving DecidableEq, Repr

/-- The second group of a shutter's record (R68). The slot is read from the slot table, the motor from the state. -/
structure Shutter where
  state : ShutterState
  /-- The hold output as commanded: `true` is ENERGISED. -/
  hold : Bool
  releasePending : Bool
  since : Nat
  inhibitedByRequest : Bool
deriving DecidableEq, Repr

/-- A granted motor slot: the shutter and the time since the grant (R94). -/
structure Grant where
  shutter : Nat
  elapsed : Nat
deriving DecidableEq, Repr

/-- The Shutter Controller: the shutter table, the motor slots (slot k at place k − 1), the waiting list (R81), and the
shutters in WAIT_STILL in the order in which they entered it (R73). -/
structure Shutters where
  table : List Shutter
  slots : List (Option Grant)
  waitList : List Nat
  stillList : List Nat
deriving DecidableEq, Repr

/-! ### The bells (chapter 5) -/

/-- The classes of a sound request that a queue may hold, highest first (R108); FIRE is never held in a queue. -/
inductive SoundClass where
  | startWarning
  | closing
  | trouble
  | call
deriving DecidableEq, Repr

/-- A sound request (R108): class, code, and for class CALL the call_id of its entry. -/
structure SoundReq where
  cls : SoundClass
  code : Nat
  callId : Option Nat
deriving DecidableEq, Repr

/-- The request being sounded (R97), with its copy of the groups and its position in them (the stroke most recently begun,
counted from 0), the time since that stroke began and the time since the pattern began. -/
structure Current where
  req : SoundReq
  groups : List Nat
  group : Nat
  stroke : Nat
  sinceStroke : Nat
  elapsed : Nat
deriving DecidableEq, Repr

/-- What a line is doing (R97). The fire ring carries the time since its last stroke began (R100). -/
inductive Activity where
  | idle
  | pattern (cur : Current)
  | fire (sinceStroke : Nat)
  | tail
deriving DecidableEq, Repr

/-- One line record (R97); `num` is the line number, 8 for CH. `strokeLeft` is what is left of the 80 ms of a stroke that is
on (R98). -/
structure Line where
  num : Nat
  faulted : Bool
  activity : Activity
  drive : Bool
  strokeLeft : Nat
  faultyRun : Nat
  queue : List SoundReq
  lastCall : Option Nat
deriving DecidableEq, Repr

/-- The state of a call entry (R104). -/
inductive CallState where
  | pending
  | answered
  | expired
deriving DecidableEq, Repr

/-- One call entry (R104). -/
structure Call where
  callId : Nat
  callPoint : Nat
  code : Nat
  raisedAt : Nat
  presses : Nat
  roundsDone : Nat
  nextDue : Option Nat
  roundLines : Option (List Nat)
  state : CallState
  answeredFloor : Option Nat
  endedAt : Option Nat
deriving DecidableEq, Repr

/-- A stroke of an old configuration's line that runs out its 80 ms after an apply (R121): its line number, its drive point
and the time left. -/
structure OldTail where
  line : Nat
  point : Nat
  left : Nat
deriving DecidableEq, Repr

/-- The Bell Controller: the lines, the call table, the call_id to give next (R104), the strokes left over from an apply. The
code table is part of the operating part (R101). -/
structure Bells where
  lines : List Line
  calls : List Call
  nextCallId : Nat
  oldTails : List OldTail
deriving DecidableEq, Repr

/-! ### The clock and the closing planner (chapter 6) -/

/-- The store clock (R122 to R124). `secondLength` is the length of the second in progress in crystal periods, and
`periodPart` the part of a period, in 125ths, that the model's millisecond has counted (notes/assumptions/2.md). -/
structure Clock where
  count : Nat
  isSet : Bool
  prescaler : Nat
  secondLength : Nat
  periodPart : Nat
deriving DecidableEq, Repr

/-- The marker of a stage (R131). -/
inductive Marker where
  | pending
  | taken
  | skipped
deriving DecidableEq, Repr

/-- The status of the plan record (R131). -/
inductive PlanStatus where
  | none
  | waiting
  | running
  | done
  | abandoned
deriving DecidableEq, Repr

/-- Today's plan record (R131). `positionWait` counts in milliseconds. `beforeWrap` is set while the record's day was given
before a wrap of the store count (R132). -/
structure Plan where
  day : Nat
  baseClose : Option Nat
  holdTotal : Nat
  warn1 : Marker
  warn2 : Marker
  close : Marker
  nextPosition : Nat
  positionWait : Option Nat
  status : PlanStatus
  beforeWrap : Bool
deriving DecidableEq, Repr

/-! ### The announcements (chapter 7) -/

/-- The class of a playout queue entry, highest first (R147). -/
inductive PlayClass where
  | evac
  | closing
  | office
deriving DecidableEq, Repr

/-- One entry of the playout queue (R147). -/
structure QueueEntry where
  slot : Nat
  cls : PlayClass
  queuedAt : Nat
  gap : Option Nat
deriving DecidableEq, Repr

/-- Where a playout stands (7.3). -/
inductive PlayPhase where
  | lead
  | phrase
  | gap
  | tail
deriving DecidableEq, Repr

/-- How a playout left the air (7.3). -/
inductive PlayOutcome where
  | complete
  | cancelled
  | aborted
  | faulted
deriving DecidableEq, Repr

/-- The on-air record, or in phase TAIL the tail record (7.3). `relays` are the relay points it closed, and `timer` the time
left in the lead, the gap or the tail. -/
structure Playout where
  slot : Nat
  cls : PlayClass
  queuedAt : Nat
  startedAt : Nat
  floors : List Nat
  relays : List Nat
  phase : PlayPhase
  phraseIndex : Nat
  phrasesSent : Nat
  missing : Nat
  cancelled : Bool
  outcome : Option PlayOutcome
  returned : Bool
  timer : Nat
deriving DecidableEq, Repr

/-- The last-playout record (R153). -/
structure LastPlayout where
  slot : Nat
  cls : PlayClass
  startedAt : Nat
  endedAt : Nat
  phrasesSent : Nat
  missing : Nat
  outcome : Option PlayOutcome
  returned : Bool
deriving DecidableEq, Repr

/-- The port states (7.5). -/
inductive PortState where
  | idle
  | starting
  | playing
  | faulted
deriving DecidableEq, Repr

/-- Why the port faulted (7.5). -/
inductive PortCause where
  | startNotSeen
  | phraseOverrun
  | abortNotSeen
  | readyUnexpected
  | startUp
deriving DecidableEq, Repr

/-- A word sent to the player (11.5). -/
inductive PlayerWord where
  | status
  | play (n : Nat)
  | abort
deriving DecidableEq, Repr

/-- Whose phrase result the next exchange may give (R157): none is outstanding, a phrase of the playout whose record stands, one
of a playout whose record has gone, or a phrase cut short by ABORT. -/
inductive ResultDue where
  | nothing
  | standing
  | gone
  | cut
deriving DecidableEq, Repr

/-- The port record (7.5), the READY level, the words being sent or waiting to be sent (the first is on the port), whose
result is due, the time left to the start-up check (R160) and whether PLAYER has been raised for the start-up fault. -/
structure Port where
  state : PortState
  startTimer : Option Nat
  phraseTimer : Option Nat
  abortWait : Option Nat
  readyLowTime : Nat
  missingCount : Nat
  faultCause : Option PortCause
  readyHigh : Bool
  outbox : List PlayerWord
  resultDue : ResultDue
  startUpLeft : Option Nat
  startUpRaised : Bool
deriving DecidableEq, Repr

/-- The Announcement Sequencer: the pending copies (the current copies are part of the operating part), the playout queue,
the on-air or tail record, the last-playout record, the port. -/
structure Announce where
  pendingCopies : List (Option Copy)
  queue : List QueueEntry
  playout : Option Playout
  last : Option LastPlayout
  port : Port
deriving DecidableEq, Repr

/-! ### The field loop and the analog monitor (chapter 8) -/

/-- A scan in progress: the output image as it stood when it began, the check word sent, the module count (R163). -/
structure Scan where
  outputs : List Bool
  word : Word
  modules : Nat
deriving DecidableEq, Repr

/-- The field loop record (R162), the scan in progress and the time to the next scan. The images hold all 192 points that 24
modules can have, point m.b at place 8·m + b. -/
structure Loop where
  good : Bool
  out : List Bool
  samples : List Bool
  debounced : List Bool
  runs : List Nat
  badRun : Nat
  nextCheck : Word
  scanCount : Nat
  badScans : Nat
  scan : Option Scan
  scanLeft : Nat
deriving DecidableEq, Repr

/-- The window state of an analog channel, in the order of R170. -/
inductive Window where
  | inside
  | high
  | low
deriving DecidableEq, Repr

/-- One analog channel (R170): its reading, window state, counts, whether it is evaluated, the blanking that remains. -/
structure Chan where
  reading : Nat
  window : Window
  above : Nat
  below : Nat
  evaluated : Bool
  blanking : Option Nat
deriving DecidableEq, Repr

/-! ### The links (chapter 9) -/

/-- The events, in the latch order of 11.3. -/
inductive Event where
  | floorMode
  | zone
  | paternoster
  | paternosterHalt
  | shutter
  | shutterFault
  | callRaised
  | callEnded
  | announcementDone
  | player
  | closingStage
  | clock
  | faultTable
  | linkState
  | config
  | startup
deriving DecidableEq, Repr

/-- The reply status values (11.3). -/
inductive Status where
  | accepted
  | refusedState
  | refusedRange
  | refusedFull
  | refusedDuplicate
  | refusedAuthority
  | refusedUnconfigured
  | refusedFormat
deriving DecidableEq, Repr

/-- The supervision state of a link (R184). -/
inductive LinkState where
  | quiet
  | active
  | lost
deriving DecidableEq, Repr

/-- The attention line (R188); HOLDOFF carries what is left of its 10 ms. -/
inductive Attention where
  | asserted
  | released
  | holdoff (left : Nat)
deriving DecidableEq, Repr

/-- The receiver (R177): COLLECTING carries the data characters collected so far. -/
inductive Receiver where
  | hunting
  | collecting (got : List Byte)
deriving DecidableEq, Repr

/-- A character on the line (11.1): the mark bit, set in an address character, and the eight data bits. -/
structure LineChar where
  mark : Bool
  data : Byte
deriving DecidableEq, Repr

/-- A reply waiting to be sent or being sent (R183): KIND, STATUS, payload. -/
structure Reply where
  kind : Nat
  status : Status
  payload : List Byte
deriving DecidableEq, Repr

/-- Where the sending of a reply stands (R182): nothing to send; waiting for its due time; the driver enabled in its lead
time, while the characters are sent, in its tail time. -/
inductive SendPhase where
  | idle
  | waiting
  | lead
  | sending
  | tail
deriving DecidableEq, Repr

/-- One Master Link Interface: strapped rate, supervision state and the time since its last valid frame or since supervision
began (R184), receiver, error and abandoned counts, latches, companions and mask (R186), attention line, the reply and its
sending, whether a start bit has been seen since the request ended, and the characters being sent. -/
structure Link where
  rate : Nat
  state : LinkState
  sinceFrame : Nat
  receiver : Receiver
  errorCount : Nat
  abandonedCount : Nat
  latches : Word
  companions : Word
  mask : Word
  attention : Attention
  reply : Option Reply
  sending : SendPhase
  startBitSeen : Bool
  onLine : List LineChar
deriving DecidableEq, Repr

/-- The three links and the station address strapped for them (R176). -/
structure Links where
  address : Nat
  f : Link
  o : Link
  e : Link
deriving DecidableEq, Repr

/-! ### The configuration store (chapter 10) -/

/-- The state of the part as a whole (R191). -/
inductive ConfigState where
  | loading
  | supervising
  | unconfigured
deriving DecidableEq, Repr

/-- The outcome of the last LOADING (R191). -/
inductive LoadResult where
  | good
  | noMarker
  | badFormat
  | badLength
  | badCrc
  | checkFailed
  | timeout
deriving DecidableEq, Repr

/-- The outcome of the last save since start-up (R191). -/
inductive LastSave where
  | none
  | good
  | failed
deriving DecidableEq, Repr

/-- Why the last save failed (R191). -/
inductive SaveFailure where
  | busyTimeout
  | verifyMismatch
  | timeLimit
deriving DecidableEq, Repr

/-- A save in progress (R199): the snapshot, the page now being written or `none` while the image is read back, what is left
of the 10 ms of the page and of the 2 s of the save. -/
structure Save where
  snapshot : List Byte
  page : Option Nat
  busyLeft : Nat
  limitLeft : Nat
deriving DecidableEq, Repr

/-- The Configuration Store (R191). `loaded` is a reading judged GOOD that waits for the fire input to settle (R193),
`lastRead` the engineering bytes of the last LOADING where it passed the marker, format and length tests (R195), `shadow`
the shadow's bytes while a session is OPEN, and `sinceReset` the time since the reset, up to 400 ms (R192). `timeouts` is the
model's own: how many readings have timed out, the argument of the free values that such a reading leaves
(notes/assumptions/29.md). -/
structure Store where
  state : ConfigState
  eng : Option Eng
  op : Op
  loadResult : LoadResult
  loadFailure : Option (Nat × Nat)
  loaded : Option (Eng × Op)
  lastRead : Option (List Byte)
  shadow : Option (List Byte)
  save : Option Save
  lastSave : LastSave
  saveFailure : Option SaveFailure
  sinceReset : Nat
  timeouts : Nat
deriving DecidableEq, Repr

/-! ### The machine -/

/-- The state of the part and the queue of commands that wait, first in, first out. -/
structure State where
  floors : Floors
  faults : Faults
  tracker : Tracker
  drive : Drive
  shutters : Shutters
  bells : Bells
  clock : Clock
  plan : Plan
  announce : Announce
  loop : Loop
  analog : List Chan
  links : Links
  store : Store
  pending : List Instr
deriving DecidableEq, Repr

/-- The faults of a step. The spec names no condition in which the part stops (a plant fault is a record of the Fault Table,
R15), so no meaning of this model raises one. -/
inductive Fault where
  /-- Raised by no meaning; a step that raised it would stop where the spec goes on, which is a safe difference. -/
  | stopped
deriving DecidableEq, Repr

/-- The refusals of a step. -/
inductive Refusal where
  /-- Raised by an arm of `exec` whose command has no meaning yet; safe, since nothing can be proved of it. No arm raises it. -/
  | notModelled (mnemonic : String)
deriving DecidableEq, Repr

/-! ### Reset -/

/-- The pins as the model takes them at `State.reset`: address 1, every link at 9,600 bit/s, both encoder channels low, the
fire input closed, READY low. DESIGN CHOICE (notes/assumptions/1.md). -/
def Pins.usual : Pins := ⟨1, 0, 0, 0, false, false, false, false⟩

/-- The tracker at start-up (R39), with the encoder levels found on the pins. -/
def Tracker.startUp (a b : Bool) : Tracker where
  counter := 0
  direction := .forward
  referenced := false
  travel := 0
  lastDeviation := none
  lastCorrection := none
  errorCount := 0
  pitchTravel := 0
  windowTicks := 0
  measuredSpeed := 0
  quietTime := 0
  brakeAppliedTime := 0
  still := false
  unconfirmedRaised := false
  encA := a
  encB := b
  windowLeft := 100

/-- The drive at start-up (R67). -/
def Drive.startUp : Drive where
  state := .off
  vRef := 0
  released := false
  enable := false
  reverse := false
  brakeExit := none
  stopCause := none
  haltCause := none
  warningLines := none
  lastrunTravel := none
  level := none
  overspeedCount := 0
  stallCount := 0
  sinceRelease := 0
  inch := none
  inchOrigin := none
  rampLeft := 0
  wasReleased := false

/-- The port at start-up (R160): FAULTED with cause START_UP, sending nothing. -/
def Port.startUp (readyHigh : Bool) : Port where
  state := .faulted
  startTimer := none
  phraseTimer := none
  abortWait := none
  readyLowTime := 0
  missingCount := 0
  faultCause := some .startUp
  readyHigh := readyHigh
  outbox := []
  resultDue := .nothing
  startUpLeft := some 2000
  startUpRaised := false

/-- The plan record with nothing done, for a day with no closing (R133, R143). -/
def Plan.blank (day : Nat) : Plan where
  day := day
  baseClose := none
  holdTotal := 0
  warn1 := .pending
  warn2 := .pending
  close := .pending
  nextPosition := 0
  positionWait := none
  status := .none
  beforeWrap := false

/-- A link at start-up (R190), strapped to a rate, before any event is set. -/
def Link.startUp (rate : Nat) : Link where
  rate := rate
  state := .quiet
  sinceFrame := 0
  receiver := .hunting
  errorCount := 0
  abandonedCount := 0
  latches := 0
  companions := 0
  mask := 0
  attention := .released
  reply := none
  sending := .idle
  startBitSeen := false
  onLine := []

/-- The store at start-up (R191), with the model's count of readings that have timed out. `loadResult` has no value before a LOADING
has ended; DESIGN CHOICE (notes/assumptions/4.md). -/
def Store.startUp (timeouts : Nat) : Store where
  state := .loading
  eng := none
  op := Op.default
  loadResult := .timeout
  loadFailure := none
  loaded := none
  lastRead := none
  shadow := none
  save := none
  lastSave := .none
  saveFailure := none
  sinceReset := 0
  timeouts := timeouts

/-- The field loop at start-up (R169): no scan, the output image all off. The state is FAULTED from the reset on, where R169 gives it
from the entry to SUPERVISING: DESIGN CHOICE (notes/assumptions/34.md). -/
def Loop.startUp : Loop where
  good := false
  out := List.replicate 192 false
  samples := List.replicate 192 false
  debounced := List.replicate 192 false
  runs := List.replicate 192 0
  badRun := 0
  nextCheck := 0xA5C3
  scanCount := 0
  badScans := 0
  scan := none
  scanLeft := 0

/-- An analog channel at start-up (R175). -/
def Chan.startUp : Chan := ⟨0, .inside, 0, 0, false, none⟩

/-- Every block at its start-up value, with a given clock, a given count of timed-out readings and nothing in the queue, before
start-up sets an event or raises a fault (R22, R39, R67, R95, R120, R143, R160, R169, R175, R190, R191). The debounced state of the
fire input, which counts as in alarm until the pin has held one level (R3), is held as in alarm whatever the pin's level: DESIGN
CHOICE (notes/assumptions/33.md). -/
def State.startUp (p : Pins) (c : Clock) (timeouts : Nat) : State where
  floors :=
    { table := [], zones := List.replicate 16 ⟨false, 0, 0⟩, gaFlag := false, pinOpen := p.fireOpen, inputAlarm := true,
      debounceLeft := some 200, settled := false, silence := false }
  faults := ⟨[], false⟩
  tracker := Tracker.startUp p.encA p.encB
  drive := Drive.startUp
  shutters := ⟨[], [], [], []⟩
  bells := ⟨[], [], 1, []⟩
  clock := c
  plan := Plan.blank (c.count / 86400)
  announce := ⟨List.replicate 8 none, [], none, none, Port.startUp p.readyHigh⟩
  loop := Loop.startUp
  analog := List.replicate 6 Chan.startUp
  links := ⟨p.address, Link.startUp p.rateF, Link.startUp p.rateO, Link.startUp p.rateE⟩
  store := Store.startUp timeouts
  pending := []

/-- A link right after power-on reset: STARTUP, CLOCK and FAULT_TABLE are latched (R190, R124, R16), so the attention line is
asserted (R188). -/
def Link.reset : Link := { Link.startUp 0 with latches := 0x9800, attention := .asserted }

/-- The machine right after power-on reset with the usual pins: every block at its start-up value, the clock cleared (R124),
CLOCK_NOT_SET the one fault record, an empty queue. -/
def State.reset : State :=
  { State.startUp Pins.usual ⟨0, false, 0, 32768, 0⟩ 0 with
    faults := ⟨[⟨.clockNotSet, 0, 0, 0, 1, true⟩], false⟩
    links := ⟨1, Link.reset, Link.reset, Link.reset⟩ }

end Sys2Proof.Machine
end

