-- ==== Sys2Proof/Machine/Operands.lean ====
section
/-! DEFINITION. How a value stands in a frame or in the image (11.2): bytes most significant first, named values by their
position in the list of their chapter, sets one bit per member, absent fields all ones; and the forms in which a request's
operands arrive. -/

namespace Sys2Proof.Machine

/-- The `k` bytes of a number, most significant first (11.2); a number too large for them wraps. -/
def be : Nat → Nat → List Byte
  | 0, _ => []
  | k + 1, n => be k (n / 256) ++ [BitVec.ofNat 8 n]

/-- The number that bytes spell, most significant first (11.2). -/
def ofBe (bs : List Byte) : Nat := bs.foldl (fun n b => n * 256 + b.toNat) 0

/-- An absent field of `k` bytes: every bit set (11.2). -/
def absent (k : Nat) : List Byte := List.replicate k 0xFF

/-- A field that may be absent. -/
def optField (k : Nat) : Option Nat → List Byte
  | some n => be k n
  | none => absent k

/-- A signed field in two's complement (11.2). -/
def signedField (k : Nat) (n : Int) : List Byte := be k (n % (256 ^ k : Nat)).toNat

/-- A signed field that may be absent. -/
def optSigned (k : Nat) : Option Int → List Byte
  | some n => signedField k n
  | none => absent k

/-- A flag or a level: 1 set, active or true, 0 clear, inactive or false. DESIGN CHOICE (notes/assumptions/5.md). -/
def flag (b : Bool) : Nat := if b then 1 else 0

/-- A value of two names: 0 for the name that its chapter gives first (11.2). -/
def named (isFirst : Bool) : Nat := if isFirst then 0 else 1

/-- A set of small numbers, one bit per member (11.2). -/
def setBits (xs : List Nat) : Nat := (xs.map (2 ^ ·)).sum

/-- The members below `k` of a set of bits. -/
def bitsBelow (k mask : Nat) : List Nat := (List.range k).filter fun i => mask.testBit i

/-- A bit per truth value, the first in bit 0 (PATERNOSTER_START, 11.4). -/
def flagBits : List Bool → Nat
  | [] => 0
  | b :: bs => flag b + 2 * flagBits bs

/-! ### Positions of named values (11.2) -/

/-- R1. -/
def FloorMode.code : FloorMode → Nat
  | .opened => 0 | .warned => 1 | .closing => 2 | .closed => 3 | .opening => 4 | .fire => 5

/-- R1. -/
def FireCause.code : FireCause → Nat
  | .zone => 0 | .general => 1 | .both => 2

/-- R15: every fault kind in the order of its table. -/
def FaultKind.all : List FaultKind :=
  [.trip, .overspeed, .stall, .overload, .chainSlip, .indexMissing, .encoder, .patShutterOpened, .levelMiss,
   .fireStopUnlevelled, .stillUnconfirmed, .shutterJam, .shutterDrift, .limitConflict, .bellLine, .callsDropped, .loop,
   .player, .linkLost, .supplyLow, .clockNotSet, .configBad, .configSaveFailed]

/-- R15: TRIP is 0 and CONFIG_SAVE_FAILED is 22. -/
def FaultKind.code (k : FaultKind) : Nat := FaultKind.all.findIdx (· == k)

/-- The kind that a byte names, if any (R19). -/
def FaultKind.ofCode (n : Nat) : Option FaultKind := FaultKind.all[n]?

/-- R15: the class of a kind. -/
def FaultKind.cls : FaultKind → FaultClass
  | .trip | .overspeed | .stall | .overload | .chainSlip | .indexMissing | .encoder | .patShutterOpened | .bellLine =>
    .latched
  | .levelMiss | .fireStopUnlevelled | .stillUnconfirmed | .shutterDrift | .callsDropped | .configSaveFailed => .occurrence
  | .shutterJam | .limitConflict | .loop | .player | .linkLost | .supplyLow | .clockNotSet | .configBad => .condition

/-- R15: the latched paternoster faults. -/
def FaultKind.isPaternoster : FaultKind → Bool
  | .trip | .overspeed | .stall | .overload | .chainSlip | .indexMissing | .encoder | .patShutterOpened => true
  | _ => false

/-- R15: whether a source is in the range of a kind. -/
def FaultKind.sourceOk (k : FaultKind) (src : Nat) : Bool :=
  match k with
  | .shutterJam | .shutterDrift | .limitConflict => src < 32
  | .bellLine => src ≤ 8
  | .callsDropped => src < 64
  | .linkLost => src < 3
  | _ => src == 0

/-- R23, R41. -/
def Direction.code : Direction → Nat
  | .forward => 0 | .reverse => 1

/-- R41. -/
def DriveState.code : DriveState → Nat
  | .off => 0 | .warning => 1 | .reference => 2 | .accel => 3 | .run => 4 | .lastrun => 5 | .level => 6 | .brake => 7
  | .halt => 8 | .inch => 9

/-- R41. -/
def Rest.code : Rest → Nat
  | .off => 0 | .halt => 1

/-- R41: six causes, then the fault kinds in their order. DEDUCED (notes/assumptions/5.md). -/
def StopCause.code : StopCause → Nat
  | .stopRequest => 0 | .stopNow => 1 | .closing => 2 | .fire => 3 | .fireDeadline => 4 | .inchEnd => 5
  | .fault k => 6 + k.code

/-- 3.5. -/
def LevelPhase.code : LevelPhase → Nat
  | .travel => 0 | .settling => 1 | .ended => 2

/-- R68. -/
def Travel.code : Travel → Nat
  | .up => 0 | .down => 1

/-- R68. -/
def WaitPurpose.code : WaitPurpose → Nat
  | .drop => 0 | .lower => 1

/-- R69. -/
def ShutterState.code : ShutterState → Nat
  | .opened => 0 | .waitSlot _ => 1 | .lowering _ => 2 | .raising _ => 3 | .waitStill _ => 4 | .dropping _ => 5
  | .closed => 6 | .jammed => 7 | .inhibited => 8 | .unknown => 9

/-- R68: the motor outputs OFF, UP, DOWN, which the state fixes (R69). -/
def ShutterState.motorCode : ShutterState → Nat
  | .raising _ => 1 | .lowering _ => 2 | _ => 0

/-- R68: direction_wanted, present in WAIT_SLOT only. -/
def ShutterState.wanted? : ShutterState → Option Travel
  | .waitSlot w => some w
  | _ => none

/-- R68: wait_purpose, present in WAIT_STILL only. -/
def ShutterState.purpose? : ShutterState → Option WaitPurpose
  | .waitStill p => some p
  | _ => none

/-- R68: the timer, present in DROPPING once the hold is released, in LOWERING and in RAISING. -/
def ShutterState.timer? : ShutterState → Option Nat
  | .lowering t => some t
  | .raising t => some t
  | .dropping t => t
  | _ => none

/-- R108: the class ranks FIRE, START_WARNING, CLOSING, TROUBLE, CALL. -/
def SoundClass.code : SoundClass → Nat
  | .startWarning => 1 | .closing => 2 | .trouble => 3 | .call => 4

/-- R97. -/
def Activity.code : Activity → Nat
  | .idle => 0 | .pattern _ => 1 | .fire _ => 2 | .tail => 3

/-- R104. -/
def CallState.code : CallState → Nat
  | .pending => 0 | .answered => 1 | .expired => 2

/-- R131. -/
def Marker.code : Marker → Nat
  | .pending => 0 | .taken => 1 | .skipped => 2

/-- R131. -/
def PlanStatus.code : PlanStatus → Nat
  | .none => 0 | .waiting => 1 | .running => 2 | .done => 3 | .abandoned => 4

/-- R147. -/
def PlayClass.code : PlayClass → Nat
  | .evac => 0 | .closing => 1 | .office => 2

/-- 7.3. -/
def PlayPhase.code : PlayPhase → Nat
  | .lead => 0 | .phrase => 1 | .gap => 2 | .tail => 3

/-- 7.3. -/
def PlayOutcome.code : PlayOutcome → Nat
  | .complete => 0 | .cancelled => 1 | .aborted => 2 | .faulted => 3

/-- 7.5. -/
def PortState.code : PortState → Nat
  | .idle => 0 | .starting => 1 | .playing => 2 | .faulted => 3

/-- 7.5. -/
def PortCause.code : PortCause → Nat
  | .startNotSeen => 0 | .phraseOverrun => 1 | .abortNotSeen => 2 | .readyUnexpected => 3 | .startUp => 4

/-- R170. -/
def Window.code : Window → Nat
  | .inside => 0 | .high => 1 | .low => 2

/-- R184. -/
def LinkState.code : LinkState → Nat
  | .quiet => 0 | .active => 1 | .lost => 2

/-- R188. -/
def Attention.code : Attention → Nat
  | .asserted => 0 | .released => 1 | .holdoff _ => 2

/-- R191. -/
def ConfigState.code : ConfigState → Nat
  | .loading => 0 | .supervising => 1 | .unconfigured => 2

/-- R191. -/
def LoadResult.code : LoadResult → Nat
  | .good => 0 | .noMarker => 1 | .badFormat => 2 | .badLength => 3 | .badCrc => 4 | .checkFailed => 5 | .timeout => 6

/-- R191. -/
def LastSave.code : LastSave → Nat
  | .none => 0 | .good => 1 | .failed => 2

/-- R184: F = 0, O = 1, E = 2. -/
def linkCode : LinkId → Nat
  | .F => 0 | .O => 1 | .E => 2

/-- 11.3. -/
def Status.code : Status → Nat
  | .accepted => 0 | .refusedState => 1 | .refusedRange => 2 | .refusedFull => 3 | .refusedDuplicate => 4
  | .refusedAuthority => 5 | .refusedUnconfigured => 6 | .refusedFormat => 7

/-- 11.3: the bit of an event in the latch order. -/
def Event.bit : Event → Nat
  | .floorMode => 0 | .zone => 1 | .paternoster => 2 | .paternosterHalt => 3 | .shutter => 4 | .shutterFault => 5
  | .callRaised => 6 | .callEnded => 7 | .announcementDone => 8 | .player => 9 | .closingStage => 10 | .clock => 11
  | .faultTable => 12 | .linkState => 13 | .config => 14 | .startup => 15

/-- The event set that names one event (11.2). -/
def Event.mask (e : Event) : Word := BitVec.twoPow 16 e.bit

/-! ### Player words (11.5) -/

/-- The 16-bit word sent to the player. -/
def PlayerWord.bits : PlayerWord → Word
  | .status => 0x0000
  | .play n => 0x1000 ||| (BitVec.ofNat 16 n &&& 0x03FF)
  | .abort => 0x2000

/-- Whether the status word from the player gives the result MISSING: bits 1 and 0 are 10 (11.5). -/
def statusMissing (w : Word) : Bool := w &&& 3 == 2

/-! ### Operand forms of the requests -/

/-- A closing field: 0xFFFFFFFF is NONE, any other value a second of day (11.2). -/
def closingNone : Nat := 0xFFFFFFFF

/-- The closing field of WRITE_EXCEPTION that means REMOVE (11.4). -/
def closingRemove : Nat := 0xFFFFFFFE

/-- A closing as it is sent (11.2). -/
def closingField : Option Nat → List Byte
  | some c => be 4 c
  | none => be 4 closingNone

/-- The closing that a field of WRITE_SCHEDULE spells; `none` where it is out of range (R127). -/
def closingOf (n : Nat) : Option (Option Nat) :=
  if n == closingNone then some none else if n ≤ 86399 then some (some n) else none

/-- The groups of WRITE_CODE: the first `count` of the four stroke counts (11.4). -/
def groupsOf (count : Nat) (strokes : List Nat) : List Nat := strokes.take count

/-- The length of a pattern in milliseconds (R100). -/
def patternLength (groups : List Nat) : Nat :=
  300 * (groups.map (· - 1)).sum + 1000 * (groups.length - 1) + 2000

/-! ### Integer square root (0.7) -/

/-- Sets the bits of the root from the highest down: `k` bits remain, `acc` is the root so far. -/
def isqrtBits (n : Nat) : Nat → Nat → Nat
  | 0, acc => acc
  | k + 1, acc => isqrtBits n k (if (acc + 2 ^ k) * (acc + 2 ^ k) ≤ n then acc + 2 ^ k else acc)

/-- isqrt(x), the integer square root of x, rounded down (0.7). -/
def isqrt (n : Nat) : Nat := isqrtBits n (n.log2 / 2 + 1) 0

end Sys2Proof.Machine
end

