-- ==== Sys2Proof/Machine/Ops.lean ====
section
/-! DEFINITION. The shared operations: one update per block of the state, the three links, the events and the attention line
(R186, R188), the output image (R168), and the primitive updates of the records. -/

namespace Sys2Proof.Machine

/-! ### One update per block -/

/-- Updates the Floor and Zone Table. -/
def State.modFloors (f : Floors → Floors) (s : State) : State := { s with floors := f s.floors }
/-- Updates the Fault Table. -/
def State.modFaults (f : Faults → Faults) (s : State) : State := { s with faults := f s.faults }
/-- Updates the Chain Tracker. -/
def State.modTracker (f : Tracker → Tracker) (s : State) : State := { s with tracker := f s.tracker }
/-- Updates the Paternoster Drive. -/
def State.modDrive (f : Drive → Drive) (s : State) : State := { s with drive := f s.drive }
/-- Updates the Shutter Controller. -/
def State.modShutters (f : Shutters → Shutters) (s : State) : State := { s with shutters := f s.shutters }
/-- Updates the Bell Controller. -/
def State.modBells (f : Bells → Bells) (s : State) : State := { s with bells := f s.bells }
/-- Updates the store clock. -/
def State.modClock (f : Clock → Clock) (s : State) : State := { s with clock := f s.clock }
/-- Updates the plan record. -/
def State.modPlan (f : Plan → Plan) (s : State) : State := { s with plan := f s.plan }
/-- Updates the Announcement Sequencer. -/
def State.modAnnounce (f : Announce → Announce) (s : State) : State := { s with announce := f s.announce }
/-- Updates the Field Loop Interface. -/
def State.modLoop (f : Loop → Loop) (s : State) : State := { s with loop := f s.loop }
/-- Updates the Analog Monitor. -/
def State.modAnalog (f : List Chan → List Chan) (s : State) : State := { s with analog := f s.analog }
/-- Updates the Master Link Interfaces. -/
def State.modLinks (f : Links → Links) (s : State) : State := { s with links := f s.links }
/-- Updates the Configuration Store. -/
def State.modStore (f : Store → Store) (s : State) : State := { s with store := f s.store }

/-- Updates the member at a place of a list; a place beyond the end changes nothing. -/
def modAt {α : Type} (xs : List α) (i : Nat) (f : α → α) : List α :=
  match xs, i with
  | [], _ => []
  | x :: rest, 0 => f x :: rest
  | x :: rest, j + 1 => x :: modAt rest j f

/-! ### Links -/

/-- One of the three links. -/
def Links.get (ks : Links) : LinkId → Link
  | .F => ks.f
  | .O => ks.o
  | .E => ks.e

/-- Updates one of the three links. -/
def Links.mod (l : LinkId) (f : Link → Link) (ks : Links) : Links :=
  match l with
  | .F => { ks with f := f ks.f }
  | .O => { ks with o := f ks.o }
  | .E => { ks with e := f ks.e }

/-- Updates every link alike. -/
def Links.map (f : Link → Link) (ks : Links) : Links := { ks with f := f ks.f, o := f ks.o, e := f ks.e }

/-- The link `l` of a state. -/
def State.link (s : State) (l : LinkId) : Link := s.links.get l

/-- Updates the link `l` of a state. -/
def State.modLink (l : LinkId) (f : Link → Link) (s : State) : State := s.modLinks (Links.mod l f)

/-! ### Events (R186) and the attention line (R188) -/

/-- Whether at least one event of the link is latched and unmasked (R188). -/
def Link.wantsAttention (k : Link) : Bool := k.latches &&& ~~~k.mask != 0

/-- The attention line after the latches or the mask may have changed: RELEASED to ASSERTED, ASSERTED to HOLDOFF, and no
change in HOLDOFF (R188). -/
def Link.settleAttention (k : Link) : Link :=
  match k.attention with
  | .released => if k.wantsAttention then { k with attention := .asserted } else k
  | .asserted => if k.wantsAttention then k else { k with attention := .holdoff 10 }
  | .holdoff _ => k

/-- One link takes an event (R186): a clear latch is set, and where the latch is set the companion is set. -/
def Link.takeEvent (e : Event) (k : Link) : Link :=
  { k with latches := k.latches ||| e.mask, companions := k.companions ||| (k.latches &&& e.mask) }.settleAttention

/-- A block sets an event: every link acts on its own pair (R186). -/
def setEvent (e : Event) (s : State) : State := s.modLinks (Links.map (Link.takeEvent e))

/-- Sets an event where a condition holds. -/
def setEventIf (c : Bool) (e : Event) (s : State) : State := if c then setEvent e s else s

/-! ### The output image (R168) -/

/-- An owner writes an output point; the write takes effect in the image at once (R168). -/
def writePoint (p : Nat) (on : Bool) (s : State) : State := s.modLoop fun lp => { lp with out := lp.out.set p on }

/-- Writes several points alike. -/
def writePoints (ps : List Nat) (on : Bool) (s : State) : State := ps.foldl (fun t p => writePoint p on t) s

/-- The value of an output point in the image. -/
def State.outPoint (s : State) (p : Nat) : Bool := s.loop.out.getD p false

/-- The debounced value of an input point, the only value an owner sees (R166). -/
def State.input (s : State) (p : Nat) : Bool := s.loop.debounced.getD p false

/-! ### Records by number -/

/-- Updates floor `f`. -/
def State.modFloor (f : Nat) (g : Floor → Floor) (s : State) : State :=
  s.modFloors fun t => { t with table := modAt t.table f g }

/-- Updates zone `z`. -/
def State.modZone (z : Nat) (g : Zone → Zone) (s : State) : State :=
  s.modFloors fun t => { t with zones := modAt t.zones z g }

/-- Shutter `i` of the table. -/
def State.shutter? (s : State) (i : Nat) : Option Shutter := s.shutters.table[i]?

/-- Bell line number `n`, 8 for CH (R97). -/
def State.line? (s : State) (n : Nat) : Option Line := s.bells.lines.find? fun l => l.num == n

/-- Updates bell line number `n`. -/
def State.modLine (n : Nat) (g : Line → Line) (s : State) : State :=
  s.modBells fun b => { b with lines := b.lines.map fun l => if l.num == n then g l else l }

/-- The call entry with a call_id (R104): the first in table order, where the counter of call_ids has come round and an older entry
still holds the number: DESIGN CHOICE (notes/assumptions/36.md). -/
def State.call? (s : State) (id : Nat) : Option Call := s.bells.calls.find? fun c => c.callId == id

/-- Updates the call entry with a call_id (R104): both, where an older entry still holds a number given again: DESIGN CHOICE
(notes/assumptions/36.md). -/
def State.modCall (id : Nat) (g : Call → Call) (s : State) : State :=
  s.modBells fun b => { b with calls := b.calls.map fun c => if c.callId == id then g c else c }

/-- Updates analog channel `c`. -/
def State.modChan (c : Nat) (g : Chan → Chan) (s : State) : State := s.modAnalog fun cs => modAt cs c g

end Sys2Proof.Machine
end

