-- ==== Sys2Proof/Machine/Flags.lean ====
section
/-! DEFINITION. The conditions that the rules derive from the state: the configuration in force, fire present and general
alarm, drop demand, limits and trips, the supply, the starting conditions, the level chain, the speed output code. -/

namespace Sys2Proof.Machine

/-- The engineering part in force; every field 0 where none is applied. -/
def State.eng (s : State) : Eng := s.store.eng.getD Eng.zero

/-- The part is SUPERVISING (R191). -/
def State.supervising (s : State) : Bool := s.store.state == .supervising

/-- The trim in force: 0 during LOADING and in UNCONFIGURED (R122). -/
def State.trim (s : State) : Int := s.eng.trim

/-- The length of a second that begins now, in crystal periods (R122). -/
def State.nextSecond (s : State) : Nat := (32768 + s.trim).toNat

/-- The store count of a call's stamps: 0 while the clock is not set (R104, R124). -/
def State.callStamp (s : State) : Nat := if s.clock.isSet then s.clock.count else 0

/-- The current day number (R123). -/
def State.today (s : State) : Nat := s.clock.count / 86400

/-- The weekday of a day (R123). -/
def State.weekday (s : State) (day : Nat) : Nat := (day + s.eng.epoch) % 7

/-! ### Fire (1.2, 1.3) -/

/-- General alarm is active while the fire-link flag is set or the hardwired input is in alarm (R3). -/
def State.generalAlarm (s : State) : Bool := s.floors.gaFlag || s.floors.inputAlarm

/-- Fire present: at least one floor is in FIRE (1.3). -/
def State.firePresent (s : State) : Bool := s.floors.table.any fun f => f.mode == .fire

/-- The fire ring applies to the NORMAL lines: fire is present and the silence flag is clear (R113). -/
def State.ringApplies (s : State) : Bool := s.firePresent && !s.floors.silence

/-- The mode of floor `f`, if there is such a floor. -/
def State.floorMode? (s : State) (f : Nat) : Option FloorMode := (s.floors.table[f]?).map (·.mode)

/-- Floor `f` is in FIRE. -/
def State.floorInFire (s : State) (f : Nat) : Bool := s.floorMode? f == some .fire

/-- A zone is in ALARM. -/
def State.zoneAlarmed (s : State) (z : Nat) : Bool := ((s.floors.zones[z]?).map (·.alarm)).getD false

/-! ### Shutters (chapter 4) -/

/-- The configuration of shutter `i` (R68). -/
def State.shutterCfg (s : State) (i : Nat) : ShutterCfg :=
  s.eng.shutters.getD i ⟨0, 0, 0, 0, 0, 0, 0, 0, 0, 0, 0⟩

/-- The state of shutter `i`, if there is such a shutter. -/
def State.shutterState? (s : State) (i : Nat) : Option ShutterState := (s.shutter? i).map (·.state)

/-- Shutter `i` is a paternoster-opening shutter. -/
def State.isPaternoster (s : State) (i : Nat) : Bool := (s.shutterCfg i).isPaternoster

/-- The shutter's open limit, as its debounced value (R68). -/
def State.openLimit (s : State) (i : Nat) : Bool := s.input (s.shutterCfg i).openPt

/-- The shutter's closed limit, as its debounced value (R68). -/
def State.closedLimit (s : State) (i : Nat) : Bool := s.input (s.shutterCfg i).closedPt

/-- The drop demand of shutter `i` (R71): a zone of its mask is in ALARM, or general alarm is active. -/
def State.dropDemand (s : State) (i : Nat) : Bool :=
  s.generalAlarm || (bitsBelow 16 (s.shutterCfg i).zoneMask).any s.zoneAlarmed

/-- The shutter may have its hold released, or its motor run, now (R70): it is not at a paternoster opening, or the chain is
deemed still. -/
def State.mayMove (s : State) (i : Nat) : Bool := !s.isPaternoster i || s.tracker.still

/-- The supply is low: channel 5's window state is LOW (R173). -/
def State.supplyLow (s : State) : Bool := ((s.analog[5]?).map (·.window)) == some .low

/-- The shutter's floor counts it as finished closing (R11). -/
def ShutterState.doneClosing : ShutterState → Bool
  | .closed | .jammed | .inhibited => true
  | _ => false

/-- The shutter's floor counts it as finished opening (R11). -/
def ShutterState.doneOpening : ShutterState → Bool
  | .opened | .jammed | .inhibited => true
  | _ => false

/-- LOWERING or RAISING: the shutter holds a motor slot (R81). -/
def ShutterState.powered : ShutterState → Bool
  | .lowering _ | .raising _ => true
  | _ => false

/-- In motion (4.1.1): LOWERING, RAISING, DROPPING or WAIT_STILL. -/
def ShutterState.inMotion : ShutterState → Bool
  | .lowering _ | .raising _ | .dropping _ | .waitStill _ => true
  | _ => false

/-- WAIT_SLOT: the shutter is in the waiting list (R81). -/
def ShutterState.waiting : ShutterState → Bool
  | .waitSlot _ => true
  | _ => false

/-- The same state with the same direction_wanted; a timer or a wait_purpose may differ (R93). -/
def ShutterState.sameState (a b : ShutterState) : Bool := a.code == b.code

/-- Numbers of the shutters of floor `f`, in shutter order. -/
def State.shuttersOn (s : State) (f : Nat) : List Nat :=
  (List.range s.shutters.table.length).filter fun i => (s.shutterCfg i).floor == f

/-! ### The drive (chapter 3) -/

/-- The landing trip input points in use (R41). -/
def State.tripPoints (s : State) : List Nat := s.eng.trips.take (2 * s.eng.floorCount)

/-- A landing trip is active (R44). -/
def State.tripActive (s : State) : Bool := s.tripPoints.any s.input

/-- Every paternoster-opening shutter is OPEN (R44). -/
def State.openingsOpen (s : State) : Bool :=
  (List.range s.shutters.table.length).all fun i =>
    !s.isPaternoster i || s.shutterState? i == some .opened

/-- The six starting conditions, in the order of R44, each true while it holds. -/
def State.startConditions (s : State) : List Bool :=
  [!s.firePresent, !s.tripActive, s.openingsOpen, !s.supplyLow, s.loop.good, s.supervising]

/-- The starting conditions hold (R44). -/
def State.mayStart (s : State) : Bool := s.startConditions.all id

/-- A state in which the drive may move the chain (R42). LEVEL is driven until its brake is applied. -/
def Drive.driven (d : Drive) : Bool :=
  match d.state with
  | .reference | .accel | .run | .lastrun | .inch => true
  | .level => d.level.any fun v => v.phase == .travel
  | _ => false

/-- LEVEL in phase SETTLING (R55). -/
def Drive.settling (d : Drive) : Bool := d.state == .level && d.level.any fun v => v.phase == .settling

/-- REFERENCE, ACCEL, RUN or LASTRUN: the states in which PAT_SHUTTER_OPENED brakes (R62). -/
def Drive.underWay (d : Drive) : Bool :=
  match d.state with
  | .reference | .accel | .run | .lastrun => true
  | _ => false

/-- The speed reference output code (R43). -/
def State.speedCode (s : State) : Nat := s.drive.vRef * 1023 / s.eng.vFull

/-- The loop length Lc (R27). -/
def State.loopLength (s : State) : Nat := s.eng.cars * s.eng.pitch

/-- The chain is level: C mod P is the level phase (R33); false with no geometry (R38). -/
def State.chainLevel (s : State) : Bool :=
  s.store.eng.isSome && s.tracker.counter % s.eng.pitch == s.eng.phase

/-- The step of a ramp each 10 ms (R41, R48, R64). -/
def State.rampStep (s : State) : Nat := max 1 (s.eng.accel / 100)

/-- `r0` of a levelled stop begun at counter `c` with braking distance `d` (R51): the smallest distance not below `d` that
brings the counter to the level phase. -/
def levelDistance (e : Eng) (c d : Nat) : Nat := d + (((e.phase : Int) - ((c + d : Nat) : Int)) % (e.pitch : Int)).toNat

/-- The braking distance from a speed, rounded up (R51). -/
def brakingDistance (e : Eng) (v : Nat) : Nat := (v * v + (2 * e.accel - 1)) / (2 * e.accel)

/-- The stop profile (R54). The formula holds at the first evaluation too, so that a stop entered below v_creep raises v_ref to it,
though R54 says in passing that the profile never steps up at entry: DESIGN CHOICE (notes/assumptions/31.md). -/
def stopProfile (e : Eng) (vNow r : Nat) : Nat :=
  if r = 0 then min vNow (isqrt (2 * e.accel * r)) else max (min vNow (isqrt (2 * e.accel * r))) e.vCreep

/-! ### The announcements (chapter 7) -/

/-- The current copy of a script slot (R144). -/
def State.copy? (s : State) (slot : Nat) : Option Copy := (s.store.op.scripts[slot]?).join

/-- The slot is on air: a playout of it is in its lead, a phrase or a gap (7.3). -/
def State.onAir (s : State) (slot : Nat) : Bool := s.announce.playout.any fun p => p.slot == slot && p.phase != .tail

/-- The slot is in the tail of its playout (7.3). -/
def State.inTail (s : State) (slot : Nat) : Bool := s.announce.playout.any fun p => p.slot == slot && p.phase == .tail

/-- The slot has an entry in the playout queue (R147). -/
def State.queued (s : State) (slot : Nat) : Bool := s.announce.queue.any fun q => q.slot == slot

/-! ### The links (chapter 9) -/

/-- The configuration of a link in force: supervision off and lead and tail 11 bit times until SUPERVISING (R190). -/
def State.linkCfg (s : State) (l : LinkId) : LinkCfg :=
  match s.store.eng, l with
  | none, _ => ⟨0, 11, 11⟩
  | some e, .F => e.linkF
  | some e, .O => e.linkO
  | some e, .E => e.linkE

/-- The driver enable is asserted (R182). -/
def Link.driverOn (k : Link) : Bool :=
  match k.sending with
  | .lead | .sending | .tail => true
  | _ => false

/-- Supervision runs on a link (R184): the part is SUPERVISING and the supervision time is not 0. -/
def State.supervised (s : State) (l : LinkId) : Bool := s.supervising && (s.linkCfg l).supervision != 0

/-! ### The configuration (chapter 10) -/

/-- The conditions of CONFIG_BEGIN and CONFIG_END (R195). -/
def State.configQuiet (s : State) : Bool :=
  (s.store.state == .unconfigured || s.floors.table.all fun f => f.mode == .closed)
    && (s.drive.state == .off || s.drive.state == .halt)
    && s.shutters.table.all (fun sh => !sh.state.inMotion && !sh.state.waiting)
    && !s.firePresent

end Sys2Proof.Machine
end

