-- ==== Sys2Proof/Machine/BellLines.lean ====
section
/-! DEFINITION. The bell lines (chapter 5): strokes, the line arbiter, placing and cutting requests, the fire ring; and the
Fault Table (1.7), whose trouble signal is a request on the counting-house line. -/

namespace Sys2Proof.Machine

/-! ### Strokes (R98, R100) -/

/-- The line number of the counting house (R97). -/
def lineCH : Nat := 8

/-- The numbers of the lines, floor lines first and CH last (R97). -/
def State.lineNumbers (s : State) : List Nat := s.bells.lines.map (·.num)

/-- The drive output point of a line (R97). -/
def State.drivePoint (s : State) (n : Nat) : Nat := (s.eng.lines.getD n ⟨0, 0, 0⟩).drive

/-- The current-sense input of a line is active (R97). -/
def State.senseActive (s : State) (n : Nat) : Bool := s.input (s.eng.lines.getD n ⟨0, 0, 0⟩).sense

/-- The line's drive goes ON for the 80 ms of a stroke (R98), and its point with it (R97). -/
def strokeOn (n : Nat) (s : State) : State :=
  (s.modLine n fun l => { l with drive := true, strokeLeft := 80 }) |> writePoint (s.drivePoint n) true

/-- The line's drive goes OFF (R98). -/
def strokeOff (n : Nat) (s : State) : State :=
  (s.modLine n fun l => { l with drive := false, strokeLeft := 0 }) |> writePoint (s.drivePoint n) false

/-! ### The line arbiter (R109) and the fire ring (R113) -/

/-- The groups of a code as they stand (R101). -/
def State.codeGroups (s : State) (code : Nat) : List Nat := ((s.store.op.codes[code - 1]?).map (·.groups)).getD []

/-- A request begins to sound: it leaves the queue, becomes current with a copy of its code's groups, and the first stroke
starts (R109). -/
def beginPattern (n : Nat) (r : SoundReq) (rest : List SoundReq) (s : State) : State :=
  (s.modLine n fun l => { l with activity := .pattern ⟨r, s.codeGroups r.code, 0, 0, 0, 0⟩, queue := rest }) |> strokeOn n

/-- The line begins the fire ring; its first stroke starts at once (R100, R113). -/
def beginRing (n : Nat) (s : State) : State := (s.modLine n fun l => { l with activity := .fire 0 }) |> strokeOn n

/-- The arbiter of one line looks (R109): a NORMAL idle line begins the fire ring where it applies (R113), and otherwise the
request at the head of its queue. -/
def serveLine (n : Nat) (s : State) : State :=
  match s.line? n with
  | none => s
  | some l =>
    if l.faulted || l.activity != .idle then s
    else if s.ringApplies then beginRing n s
    else match l.queue with
      | [] => s
      | r :: rest => beginPattern n r rest s

/-- What a line sounds is cut (R110): a stroke that is on runs out as a tail; with no stroke on, the line is idle and its
arbiter looks. The request cut, if any, is not completed. -/
def cutLine (n : Nat) (s : State) : State :=
  match s.line? n with
  | none => s
  | some l =>
    match l.activity with
    | .idle | .tail => s
    | .pattern _ | .fire _ =>
      if l.drive then s.modLine n fun k => { k with activity := .tail }
      else (s.modLine n fun k => { k with activity := .idle }) |> serveLine n

/-! ### Placing a request (R108) -/

/-- A request is inserted after every waiting request of the same or a higher class and before every one of a lower class
(R108). -/
def insertReq (r : SoundReq) : List SoundReq → List SoundReq
  | [] => [r]
  | q :: qs => if q.cls.code ≤ r.cls.code then q :: insertReq r qs else r :: q :: qs

/-- The request that a line sounds (R97). -/
def Line.current? (l : Line) : Option SoundReq :=
  match l.activity with
  | .pattern c => some c.req
  | _ => none

/-- The line holds a request for a call entry, waiting or sounding (R106). -/
def Line.holdsCall (l : Line) (id : Nat) : Bool :=
  l.queue.any (fun r => r.callId == some id) || l.current?.any fun r => r.callId == some id

/-- Whether a request placed on the line would be taken or is already served by one it holds (R108); `false` is a request
treated as done, dropped, or placed on a line that does not exist. -/
def State.takesReq (s : State) (n : Nat) (r : SoundReq) : Bool :=
  match s.line? n with
  | none => false
  | some l => !l.faulted && (r.callId.any l.holdsCall || l.queue.length < 8)

/-- A request is placed on a line (R108). -/
def placeReq (n : Nat) (r : SoundReq) (s : State) : State :=
  match s.line? n with
  | none => s
  | some l =>
    if l.faulted || r.callId.any l.holdsCall || 8 ≤ l.queue.length then s
    else (s.modLine n fun k => { k with queue := insertReq r k.queue }) |> serveLine n

/-- A CLOSING request, code 2, on each line of a list (R112). -/
def placeClosing (ns : List Nat) (s : State) : State := ns.foldl (fun t n => placeReq n ⟨.closing, 2, none⟩ t) s

/-! ### The Fault Table (1.7) -/

/-- The record is the one of a kind and a source (R16). -/
def FaultRec.isOf (k : FaultKind) (src : Nat) (r : FaultRec) : Bool := r.kind == k && r.source == src

/-- The record of a kind and a source, if the table holds it (R16). -/
def Faults.find (k : FaultKind) (src : Nat) (t : Faults) : Option FaultRec := t.records.find? (FaultRec.isOf k src)

/-- A new record (R16). -/
def FaultRec.make (k : FaultKind) (src now : Nat) : FaultRec := ⟨k, src, now, now, 1, k.cls != .occurrence⟩

/-- A further occurrence of a recorded fault (R16). -/
def FaultRec.again (now : Nat) (r : FaultRec) : FaultRec :=
  { r with lastRaised := now, occurrences := min 255 (r.occurrences + 1), active := r.active || r.kind.cls != .occurrence }

/-- Removes the first CLEARED record (R17). -/
def dropCleared : List FaultRec → List FaultRec
  | [] => []
  | r :: rs => if r.active then r :: dropCleared rs else rs

/-- The Fault Table after a block has raised a fault (R16, R17). -/
def Faults.raise (k : FaultKind) (src now : Nat) (t : Faults) : Faults :=
  match t.find k src with
  | some _ => { t with records := t.records.map fun r => if r.isOf k src then r.again now else r }
  | none =>
    if t.records.length < 32 then { t with records := t.records ++ [FaultRec.make k src now] }
    else if t.records.all (·.active) then { t with full := true }
    else ⟨dropCleared t.records ++ [FaultRec.make k src now], false⟩

/-- Whether raising the fault adds a record or returns one from CLEARED to ACTIVE, and so asks for the trouble signal (R16). -/
def Faults.asksTrouble (k : FaultKind) (src : Nat) (t : Faults) : Bool :=
  match t.find k src with
  | some r => !r.active && k.cls != .occurrence
  | none => t.records.length < 32 || !t.records.all (·.active)

/-- The trouble signal (R20): a TROUBLE request, code 3, on CH, unless one waits there. -/
def troubleSignal (s : State) : State :=
  match s.line? lineCH with
  | none => s
  | some l => if l.queue.any (fun r => r.cls == .trouble) then s else placeReq lineCH ⟨.trouble, 3, none⟩ s

/-- A block raises a fault (R16, R17, R20): the table changes, FAULT_TABLE is set where it changed, and the trouble signal is
asked for. It is set once for the whole change, also where a replacement in a full table clears the table-full flag (R17) and adds
the record (R16), each of which sets it: DESIGN CHOICE (notes/assumptions/37.md). -/
def raiseFault (k : FaultKind) (src : Nat) (s : State) : State :=
  let t := s.faults.raise k src s.clock.count
  let u := setEventIf (t != s.faults) .faultTable (s.modFaults fun _ => t)
  if s.faults.asksTrouble k src then troubleSignal u else u

/-- The owner of a condition fault reports its end (R18). -/
def endFault (k : FaultKind) (src : Nat) (s : State) : State :=
  if s.faults.records.any fun r => r.isOf k src && r.active then
    (s.modFaults fun t =>
      { t with records := t.records.map fun r => if r.isOf k src then { r with active := false } else r })
      |> setEvent .faultTable
  else s

end Sys2Proof.Machine
end

