-- ==== Sys2Proof/Machine/Calls.lean ====
section
/-! DEFINITION. The call table, rounds and answers (5.3, 5.6), and what fire does to the bells (5.5). -/

namespace Sys2Proof.Machine

/-! ### Rounds (R106, R107) -/

/-- A round of the entry is complete (R107): it expires at N_repeat rounds, and otherwise is due again after T_repeat. -/
def roundComplete (id : Nat) (s : State) : State :=
  match s.call? id with
  | none => s
  | some c =>
    if c.roundsDone + 1 = s.eng.nRepeat then
      (s.modCall id fun d =>
        { d with roundsDone := d.roundsDone + 1, roundLines := none, nextDue := none, state := .expired,
                 endedAt := some s.callStamp })
        |> setEvent .callEnded
    else
      s.modCall id fun d =>
        { d with roundsDone := d.roundsDone + 1, roundLines := none, nextDue := some (s.eng.tRepeat * 1000) }

/-- The CALL request of an entry on a line is done: the line leaves the round, and the round is complete when none remains
(R107). -/
def callDone (id n : Nat) (s : State) : State :=
  match s.call? id with
  | none => s
  | some c =>
    match c.roundLines with
    | none => s
    | some ls =>
      if c.state = .pending ∧ n ∈ ls then
        if ls.erase n = [] then roundComplete id s
        else s.modCall id fun d => { d with roundLines := some (ls.erase n) }
      else s

/-- The lines of a code's mask that the installation has, in line order (R106). -/
def State.codeLines (s : State) (code : Nat) : List Nat :=
  s.lineNumbers.filter fun n => ((s.store.op.codes.getD (code - 1) ⟨[], 0⟩).mask).testBit n

/-- One line of a round's mask (R106): it joins round_lines where it takes or already holds a request of the entry. -/
def roundLine (id code : Nat) (s : State) (n : Nat) : State :=
  let r : SoundReq := ⟨.call, code, some id⟩
  if s.takesReq n r then
    (s.modCall id fun c => { c with roundLines := some (c.roundLines.getD [] ++ [n]) }) |> placeReq n r
  else s

/-- A round begins, or restarts the one in progress (R106): the old round_lines are discarded, every line of the mask is
taken, and a round with no line is complete at once. No round begins while a floor is in FIRE. A line that WRITE_CODE has taken out
of the mask keeps the request that it holds and does not join the new round: DESIGN CHOICE (notes/assumptions/45.md). -/
def beginRound (id : Nat) (s : State) : State :=
  if s.firePresent then s
  else match s.call? id with
    | none => s
    | some c =>
      if c.state = .pending then
        let t := (s.codeLines c.code).foldl (roundLine id c.code) (s.modCall id fun d => { d with roundLines := some [] })
        if (t.call? id).any fun d => d.roundLines == some [] then roundComplete id t else t
      else s

/-! ### The call table (R104, R105, R117) -/

/-- Removing entries empties every last_call that names one of them (R117); entries that share a number count as named alike: DESIGN
CHOICE (notes/assumptions/36.md). -/
def removeCalls (gone : Call → Bool) (s : State) : State :=
  let ids := (s.bells.calls.filter gone).map (·.callId)
  s.modBells fun b =>
    { b with calls := b.calls.filter fun c => !gone c
             lines := b.lines.map fun l =>
               if l.lastCall.any fun i => ids.contains i then { l with lastCall := none } else l }

/-- A new entry of a call point (R104, R105). The number is the next of the counter, also where an older entry of the table still holds
it after the counter has come round: DESIGN CHOICE as to which of the two it then names (notes/assumptions/36.md). -/
def newCall (p : Nat) (s : State) : State :=
  let c : Call := ⟨s.bells.nextCallId, p, (s.eng.callPoints.getD p ⟨0, 0, 0⟩).code, s.callStamp, 1, 0, some 0, none,
    .pending, none, none⟩
  (s.modBells fun b =>
    { b with calls := b.calls ++ [c], nextCallId := if b.nextCallId = 65535 then 1 else b.nextCallId + 1 })
    |> setEvent .callRaised |> beginRound c.callId

/-- A press on call point `p` (R105). -/
def callPress (p : Nat) (s : State) : State :=
  match s.bells.calls.find? fun c => c.callPoint == p && c.state == .pending with
  | some c =>
    (s.modCall c.callId fun d => { d with presses := min 255 (d.presses + 1), roundsDone := 0, nextDue := some 0 })
      |> beginRound c.callId
  | none =>
    if s.bells.calls.length < 24 then newCall p s
    else match s.bells.calls.find? fun c => c.state != .pending with
      | some old => (removeCalls (fun c => c.callId == old.callId) s) |> newCall p
      | none => raiseFault .callsDropped p s

/-- A line loses what it holds of an entry (R115, R116): waiting requests are removed and a sounding pattern is cut. -/
def lineForgetCall (id : Nat) (s : State) (n : Nat) : State :=
  let t := s.modLine n fun l => { l with queue := l.queue.filter fun r => r.callId != some id }
  if (t.line? n).any fun l => l.current?.any fun r => r.callId == some id then cutLine n t else t

/-- An entry leaves PENDING through an answer or a cancel: next_due and round_lines are discarded, every request of the entry
is removed or cut, and CALL_ENDED is set (R115, R116). -/
def endCall (id : Nat) (st : CallState) (answered : Option Nat) (s : State) : State :=
  let t := s.modCall id fun c =>
    { c with state := st, answeredFloor := answered, endedAt := some s.callStamp, nextDue := none, roundLines := none }
  (t.lineNumbers.foldl (lineForgetCall id) t) |> setEvent .callEnded

/-- An answer on floor line `f` (R115): it answers the PENDING entry that the line's last_call names, unless fire is present
and not silenced. -/
def callAnswer (f : Nat) (s : State) : State :=
  if s.ringApplies then s
  else match (s.line? f).bind (·.lastCall) with
    | none => s
    | some id =>
      match s.call? id with
      | none => s
      | some c => if c.state = .pending then endCall id .answered (some f) s else s

/-! ### Fire on the bells (5.5) -/

/-- A waiting or sounding request that a floor entering FIRE ends (R113): a CALL or a CLOSING. -/
def SoundClass.endedByFire : SoundClass → Bool
  | .call | .closing => true
  | _ => false

/-- One line when a floor enters FIRE: CALL and CLOSING requests leave the queue, and such a pattern is cut (R113). -/
def lineEnterFire (s : State) (n : Nat) : State :=
  let t := s.modLine n fun l => { l with queue := l.queue.filter fun r => !r.cls.endedByFire }
  if (t.line? n).any fun l => l.current?.any fun r => r.cls.endedByFire then cutLine n t else t

/-- The fire ring comes to apply to a line (R113): at once if idle, after a cut if in PATTERN, after the tail if in TAIL. -/
def lineRing (s : State) (n : Nat) : State :=
  match s.line? n with
  | none => s
  | some l =>
    if l.faulted then s
    else match l.activity with
      | .idle => serveLine n s
      | .pattern _ => cutLine n s
      | .fire _ | .tail => s

/-- The fire ring begins on every line that it applies to (R113, R114). -/
def ringBegins (s : State) : State := if s.ringApplies then s.lineNumbers.foldl lineRing s else s

/-- The rounds in progress are discarded when a floor enters FIRE, and are due again in full (R113). -/
def discardRounds (s : State) : State :=
  s.modBells fun b =>
    { b with calls := b.calls.map fun c =>
        if c.state == .pending && c.roundLines.isSome then { c with roundLines := none, nextDue := some 0 } else c }

/-- What the Bell Controller does when a floor enters FIRE (R113). -/
def bellsEnterFire (s : State) : State :=
  let t := discardRounds s
  (t.lineNumbers.foldl lineEnterFire t) |> ringBegins

/-- One line when the fire ring ceases to apply: a ringing line is cut (R114). -/
def lineRingStops (s : State) (n : Nat) : State :=
  match s.line? n with
  | none => s
  | some l =>
    match l.activity with
    | .fire _ => cutLine n s
    | _ => s

/-- The fire ring stops on every line, and the lines serve their queues again (R114). -/
def ringStops (s : State) : State := s.lineNumbers.foldl lineRingStops s

/-- When fire present ends, every PENDING entry with next_due 0 begins its round, in table order (R114). -/
def dueRoundsBegin (s : State) : State :=
  (s.bells.calls.filter fun c => c.state == .pending && c.nextDue == some 0).foldl
    (fun t c => beginRound c.callId t) s

/-! ### The start warning (R111) -/

/-- The drive withdraws its warning from a line: a waiting START_WARNING is removed and a sounding one is cut. -/
def lineWithdraw (s : State) (n : Nat) : State :=
  let t := s.modLine n fun l => { l with queue := l.queue.filter fun r => r.cls != .startWarning }
  if (t.line? n).any fun l => l.current?.any fun r => r.cls == .startWarning then cutLine n t else t

end Sys2Proof.Machine
end

