-- ==== Sys2Proof/Machine/ShutterOps.lean ====
section
/-! DEFINITION. Floor modes and boarding lamps (R1, R11, R14), and the operations on a shutter, the motor slots and the waiting
list (chapter 4). -/

namespace Sys2Proof.Machine

/-! ### Floor modes -/

/-- A floor's NO_BOARDING lamps are LIT unless the paternoster is in RUN and the floor is OPEN or WARNED (R14). -/
def lampsLit (d : DriveState) (m : FloorMode) : Bool := !(d == .run && (m == .opened || m == .warned))

/-- The two lamp points of floor `f` (R14). -/
def State.lampPoints (s : State) (f : Nat) : List Nat := [s.eng.lamps.getD (2 * f) 0, s.eng.lamps.getD (2 * f + 1) 0]

/-- The boarding field of every floor is derived again and both lamp points of each are written (R14). -/
def reboard (s : State) : State :=
  let t := s.modFloors fun ft => { ft with table := ft.table.map fun f => { f with lit := lampsLit s.drive.state f.mode } }
  (List.range t.floors.table.length).foldl
    (fun u i => writePoints (s.lampPoints i) ((t.floors.table[i]?).any (·.lit)) u) t

/-- Floor `f` changes to a mode that is not FIRE: the mode and mode_since are written, FLOOR_MODE is set (R1), and the boarding
lamps are derived again (R14). -/
def setMode (f : Nat) (m : FloorMode) (s : State) : State :=
  (s.modFloor f fun fl => { fl with mode := m, cause := none, modeSince := s.clock.count })
    |> setEvent .floorMode |> reboard

/-- Every shutter of floor `f` satisfies a test of its state. -/
def State.floorShuttersAll (s : State) (f : Nat) (p : ShutterState → Bool) : Bool :=
  (s.shuttersOn f).all fun i => (s.shutter? i).all fun sh => p sh.state

/-- The test of R11: a floor in CLOSING becomes CLOSED, and one in OPENING becomes OPEN, when all its shutters have finished. -/
def finishTest (f : Nat) (s : State) : State :=
  match s.floorMode? f with
  | some .closing => if s.floorShuttersAll f ShutterState.doneClosing then setMode f .closed s else s
  | some .opening => if s.floorShuttersAll f ShutterState.doneOpening then setMode f .opened s else s
  | _ => s

/-! ### One shutter (R68, R70) -/

/-- A rule releases the hold (R70): where it may not be released now, the hold stays ENERGISED with the release pending. -/
def Shutter.release (may : Bool) (sh : Shutter) : Shutter :=
  if may || !sh.hold then { sh with hold := false, releasePending := false } else { sh with releasePending := true }

/-- A rule energises the hold, which clears a pending release (R70). -/
def Shutter.energise (sh : Shutter) : Shutter := { sh with hold := true, releasePending := false }

/-- An analog channel leaves evaluation (R171). -/
def Chan.leave (c : Chan) : Chan := { c with window := .inside, above := 0, below := 0, evaluated := false, blanking := none }

/-- A channel's blanking begins, timed afresh (R171). -/
def Chan.blank (t : Nat) (c : Chan) : Chan := { c.leave with blanking := some t }

/-- The slot granted to shutter `i`, counted from 0 (R81). -/
def Shutters.slotOf (t : Shutters) (i : Nat) : Option Nat :=
  t.slots.findIdx? fun g => g.any fun g => g.shutter == i

/-- The slot of shutter `i`, if it holds one, becomes free, and its current channel leaves evaluation (R81, R171). -/
def freeSlot (i : Nat) (s : State) : State :=
  match s.shutters.slotOf i with
  | none => s
  | some k => (s.modShutters fun t => { t with slots := t.slots.set k none }) |> State.modChan (k + 1) Chan.leave

/-- The list after a member joins at the tail, leaves, or keeps its place (R81). -/
def relist (i : Nat) (was now : Bool) (xs : List Nat) : List Nat :=
  match was, now with
  | false, true => xs ++ [i]
  | true, false => xs.erase i
  | _, _ => xs

/-- WAIT_STILL (R69). -/
def ShutterState.inWaitStill : ShutterState → Bool
  | .waitStill _ => true
  | _ => false

/-- The controller writes the hold, up and down points of shutter `i` (R68). -/
def writeShutter (i : Nat) (sh : Shutter) (s : State) : State :=
  let c := s.shutterCfg i
  s |> writePoint c.holdPt sh.hold |> writePoint c.upPt (sh.state.motorCode == 1)
    |> writePoint c.downPt (sh.state.motorCode == 2)

/-- Shutter `i` takes a new record. A change of state sets since; a join or a leave keeps the waiting list (R81) and the
WAIT_STILL order (R73); leaving a powered state frees the slot (R81); the points are written (R68); the events of R93 are set;
reaching OPEN or CLOSED ends SHUTTER_JAM (R78); and the floor makes its test (R77, R11). SHUTTER is set once for each record put in
which the state, direction_wanted or inhibited_by_request differs, however many of them do, which R93 leaves open: DESIGN CHOICE
(notes/assumptions/43.md). -/
def putShutter (i : Nat) (sh : Shutter) (s : State) : State :=
  match s.shutter? i with
  | none => s
  | some old =>
    let moved := !old.state.sameState sh.state
    let new := if moved then { sh with since := s.clock.count } else sh
    let t := (s.modShutters fun x =>
      { x with table := x.table.set i new
               waitList := relist i old.state.waiting sh.state.waiting x.waitList
               stillList := relist i old.state.inWaitStill sh.state.inWaitStill x.stillList })
      |> (if old.state.powered && !sh.state.powered then freeSlot i else id)
      |> writeShutter i new
      |> setEventIf (moved || old.state.wanted? != sh.state.wanted? || old.inhibitedByRequest != sh.inhibitedByRequest)
          .shutter
      |> setEventIf (moved && (sh.state == .jammed || sh.state == .unknown)) .shutterFault
    if moved then
      (if sh.state == .opened || sh.state == .closed then endFault .shutterJam i t else t)
        |> finishTest (s.shutterCfg i).floor
    else t

/-- Shutter `i` takes a new record made from the one it has. -/
def changeShutter (i : Nat) (g : Shutter → Shutter) (s : State) : State :=
  match s.shutter? i with
  | none => s
  | some sh => putShutter i (g sh) s

/-! ### The drop (4.3) -/

/-- t_drop of shutter `i` in milliseconds (R68). -/
def State.dropTime (s : State) (i : Nat) : Nat := (s.shutterCfg i).tDrop * 1000

/-- Only the closed limit of shutter `i` is active. -/
def State.showsClosed (s : State) (i : Nat) : Bool := s.closedLimit i && !s.openLimit i

/-- Only the open limit of shutter `i` is active. -/
def State.showsOpen (s : State) (i : Nat) : Bool := s.openLimit i && !s.closedLimit i

/-- Both limits of shutter `i` are active (R83). -/
def State.showsBoth (s : State) (i : Nat) : Bool := s.openLimit i && s.closedLimit i

/-- Shutter `i` enters DROPPING (R74): the hold is released (R70), the timer starts when it is RELEASED, and a shutter whose
closed limit is already active, the open limit inactive, becomes CLOSED at once. -/
def enterDropping (i : Nat) (s : State) : State :=
  let t := changeShutter i
    (fun sh =>
      let r := sh.release (s.mayMove i)
      { r with state := .dropping (if r.hold then none else some (s.dropTime i)) }) s
  if t.showsClosed i then changeShutter i (fun sh => { sh with state := .closed }) t else t

/-- A drop of shutter `i` as from OPEN (R72): DROPPING, or WAIT_STILL where a paternoster-opening shutter must wait for the
chain. A hold that is already RELEASED there stays so, as R70's exception has it, where R69 and R73 have it ENERGISED in WAIT_STILL:
DESIGN CHOICE (notes/assumptions/30.md). -/
def dropFromOpen (i : Nat) (s : State) : State :=
  if s.mayMove i then enterDropping i s else changeShutter i (fun sh => { sh with state := .waitStill .drop }) s

/-- A drop of shutter `i`, by its state (R72). While the field loop is FAULTED a drop of an UNKNOWN shutter releases its hold and
does no more (R91), so that it stays UNKNOWN until its limits are read again: R72 alone would have it act as from OPEN. DESIGN
CHOICE (notes/assumptions/30.md). -/
def dropShutter (i : Nat) (s : State) : State :=
  match s.shutter? i with
  | none => s
  | some sh =>
    match sh.state with
    | .opened | .inhibited | .waitSlot _ | .lowering _ | .raising _ => dropFromOpen i s
    | .unknown =>
      let t := changeShutter i (Shutter.release (s.mayMove i)) s
      if !s.loop.good || s.showsBoth i then t else dropFromOpen i t
    | .waitStill .lower => changeShutter i (fun x => { x with state := .waitStill .drop }) s
    | .waitStill .drop | .dropping _ | .closed => s
    | .jammed => changeShutter i (Shutter.release (s.mayMove i)) s

/-! ### Motor slots and the waiting list (4.5) -/

/-- An entry of the waiting list is eligible (R82). -/
def State.eligible (s : State) (i : Nat) : Bool :=
  s.mayMove i && (!s.supplyLow || s.shutterState? i == some (.waitSlot .down))

/-- t_travel of shutter `i` in milliseconds (R68). -/
def State.travelTime (s : State) (i : Nat) : Nat := (s.shutterCfg i).tTravel * 1000

/-- A powered travel of shutter `i` ends at its limit (R78): LOWERING to CLOSED with the hold released where `down` holds, RAISING to
OPEN with the hold kept where `up` holds. -/
def endTravel (down up : Bool) (i : Nat) (s : State) : State :=
  match s.shutterState? i with
  | some (.lowering _) => if down then changeShutter i (fun sh => { sh.release (s.mayMove i) with state := .closed }) s else s
  | some (.raising _) => if up then changeShutter i (fun sh => { sh with state := .opened }) s else s
  | _ => s

/-- A powered travel of shutter `i` meets a limit, the other limit inactive (the table of R78). -/
def travelDone (i : Nat) (s : State) : State := endTravel (s.showsClosed i) (s.showsOpen i) i s

/-- A powered travel of shutter `i` whose limit is already active at the grant ends at once (R78). R78 asks nothing of the other limit
here, as its table does of a limit that comes in travel (`travelDone`). -/
def travelDoneAtGrant (i : Nat) (s : State) : State := endTravel (s.closedLimit i) (s.openLimit i) i s

/-- Slot `k`, counted from 0, is granted to shutter `i` (R78): the hold is energised, the motor runs in direction_wanted, the
timer starts at t_travel, the slot's current channel begins its 300 ms blanking (R171), and a travel already at its limit ends
at once. -/
def grantSlot (k i : Nat) (s : State) : State :=
  match s.shutterState? i with
  | some (.waitSlot w) =>
    (s.modShutters fun t => { t with slots := t.slots.set k (some ⟨i, 0⟩) })
      |> State.modChan (k + 1) (Chan.blank 300)
      |> changeShutter i (fun sh =>
          { sh.energise with state := match w with
              | .down => .lowering (s.travelTime i)
              | .up => .raising (s.travelTime i) })
      |> travelDoneAtGrant i
  | _ => s

/-- The lowest-numbered free slot, counted from 0 (R82). -/
def Shutters.freeSlot? (t : Shutters) : Option Nat := t.slots.findIdx? (·.isNone)

/-- Grants while a slot is free and the list holds an eligible entry, at most `n` times (R82). -/
def arbiterLoop : Nat → State → State
  | 0, s => s
  | n + 1, s =>
    match s.shutters.freeSlot?, s.shutters.waitList.find? s.eligible with
    | some k, some i => arbiterLoop n (grantSlot k i s)
    | _, _ => s

/-- The arbiter looks (R82): it grants the lowest free slot to the first eligible entry, and repeats. While the field loop is
FAULTED no slot is granted. -/
def arbiter (s : State) : State := if s.loop.good then arbiterLoop s.shutters.waitList.length s else s

/-- The drops of a list of shutters, taken together; the arbiter looks once they are done. -/
def dropShutters (is : List Nat) (s : State) : State := (is.foldl (fun t i => dropShutter i t) s) |> arbiter

/-- A fire drop of shutter `i`: inhibited_by_request is cleared (R71) and the drop acts by R72; the two are put one after the other, so
that an INHIBITED shutter sets SHUTTER twice: DESIGN CHOICE (notes/assumptions/43.md). -/
def fireDropShutter (s : State) (i : Nat) : State :=
  (changeShutter i (fun sh => { sh with inhibitedByRequest := false }) s) |> dropShutter i

/-- Shutter `i` waits to be lowered (R75): a paternoster-opening shutter passes WAIT_STILL, at once where the chain is deemed
still (R73), and any other joins the list DOWN. -/
def waitToLower (i : Nat) (s : State) : State :=
  if s.isPaternoster i then
    let t := changeShutter i (fun sh => { sh with state := .waitStill .lower }) s
    if s.tracker.still then changeShutter i (fun sh => { sh with state := .waitSlot .down }) t else t
  else changeShutter i (fun sh => { sh with state := .waitSlot .down }) s

/-- One shutter of a floor that enters CLOSING (R75). -/
def lowerShutter (s : State) (i : Nat) : State :=
  match s.shutterState? i with
  | some .opened => waitToLower i s
  | some (.raising _) => changeShutter i (fun sh => { sh with state := .waitSlot .down }) s
  | some (.waitSlot .up) =>
    if s.closedLimit i then changeShutter i (fun sh => { sh.release (s.mayMove i) with state := .closed }) s
    else changeShutter i (fun sh => { sh with state := .waitSlot .down }) s
  | _ => s

/-- Floor `f` has entered CLOSING: its shutters are lowered in shutter order, the arbiter looks and the floor makes its test
(R75, R11). The arbiter looks once, when every shutter has joined the list or changed its direction: DESIGN CHOICE
(notes/assumptions/30.md). -/
def lowerFloor (f : Nat) (s : State) : State := ((s.shuttersOn f).foldl lowerShutter s) |> arbiter |> finishTest f

/-- One CLOSED shutter of an OPENING floor joins the list UP where its drop demand is false and the supply is not low (R76). -/
def raiseShutter (s : State) (i : Nat) : State :=
  if s.shutterState? i == some .closed && !s.dropDemand i && !s.supplyLow then
    changeShutter i (fun sh => { sh with state := .waitSlot .up }) s
  else s

/-! ### Resolution and limits (4.6) -/

/-- A CLOSED floor returns to CLOSING for a shutter found open (R10, R77); no closing-begun notice is given. -/
def floorBackToClosing (f : Nat) (s : State) : State :=
  if s.floorMode? f == some .closed then (setMode f .closing s) |> finishTest f else s

/-- The LIMIT_CONFLICT record of the shutter is ACTIVE. -/
def State.conflictActive (s : State) (i : Nat) : Bool := s.faults.records.any fun r => r.isOf .limitConflict i && r.active

/-- Where the limits of shutter `i` are not both active, the end of LIMIT_CONFLICT is reported (R83, R91, R93, R96); with no ACTIVE
record of it nothing changes (R18). -/
def conflictEnds (i : Nat) (s : State) : State := if s.showsBoth i then s else endFault .limitConflict i s

/-- Shutter `i` takes the state that its limits, its hold, its drop demand and its floor's mode give (R85). -/
def settleShutter (i : Nat) (s : State) : State :=
  match s.shutter? i with
  | none => s
  | some sh =>
    let f := (s.shutterCfg i).floor
    if s.showsClosed i then changeShutter i (fun x => { x.release (s.mayMove i) with state := .closed }) s
    else if s.showsBoth i then
      (changeShutter i (fun x => { x with state := .unknown }) s)
        |> (if s.conflictActive i then id else raiseFault .limitConflict i)
    else if !s.showsOpen i then changeShutter i (fun x => { x with state := .unknown }) s
    else if !sh.hold || sh.releasePending then enterDropping i s
    else if s.dropDemand i || s.floorInFire f then dropFromOpen i s
    else match s.floorMode? f with
      | some .closing | some .closed => (waitToLower i s) |> floorBackToClosing f
      | _ => changeShutter i (fun x => { x with state := .opened }) s

/-- Shutter `i` is resolved (R85): a LIMIT_CONFLICT that its limits no longer show ends, and its state is set. -/
def resolveShutter (i : Nat) (s : State) : State := (conflictEnds i s) |> settleShutter i

/-- SHUTTER_DRIFT (R84): the open limit is lost where the state expects it. -/
def driftShutter (i : Nat) (s : State) : State := (enterDropping i s) |> raiseFault .shutterDrift i

/-- Both limits of shutter `i` have become active (R83). -/
def limitConflict (i : Nat) (s : State) : State :=
  (raiseFault .limitConflict i s)
    |> changeShutter i (fun sh => if sh.state == .inhibited then sh else { sh with state := .unknown })

/-- A limit of shutter `i` that was active, `o` or `c`, and is no longer, where the state expects it (R84): the drift of an open
limit; a closed limit lost leaves the shutter UNKNOWN, and an open limit gained in the same scan then resolves it. DESIGN CHOICE
where both change (notes/assumptions/14.md). -/
def limitLost (i : Nat) (o c : Bool) (s : State) : State :=
  match s.shutterState? i with
  | some .opened | some (.waitSlot .down) | some (.waitStill _) => if o && !s.openLimit i then driftShutter i s else s
  | some (.waitSlot .up) | some .closed =>
    if c && !s.closedLimit i then
      let t := changeShutter i (fun x => { x with state := .unknown }) s
      if o == s.openLimit i then t else resolveShutter i t
    else s
  | _ => s

/-- The limits of shutter `i`, both active until now, no longer are: LIMIT_CONFLICT ends, an UNKNOWN shutter is resolved (R83,
R85), and in any other state the limits lost act by R84. R83 resolves "a shutter then in UNKNOWN" and R84 makes a CLOSED one, and
one in WAIT_SLOT for UP, UNKNOWN by the loss of its closed limit, with no order of the two: the model asks for UNKNOWN before R84
acts, so that such a shutter stays UNKNOWN, unresolved where its open limit stays active. DESIGN CHOICE
(notes/assumptions/14.md). -/
def conflictOver (i : Nat) (s : State) : State :=
  if s.shutterState? i == some .unknown then resolveShutter i s else (conflictEnds i s) |> limitLost i true true

/-- The debounced limits of shutter `i` have changed, from `o`, `c` to the values now read (R74, R78, R83 to R86). Where both
change in one scan, a limit lost is taken before one gained: DESIGN CHOICE (notes/assumptions/14.md). -/
def limitChange (i : Nat) (o c : Bool) (s : State) : State :=
  let no := s.openLimit i
  let nc := s.closedLimit i
  if (no && nc) && !(o && c) then limitConflict i s
  else if (o && c) && !(no && nc) then conflictOver i s
  else if o == no && c == nc then s
  else match s.shutter? i with
    | none => s
    | some sh =>
      match sh.state with
      | .opened | .waitSlot _ | .waitStill _ | .closed => limitLost i o c s
      | .lowering _ | .raising _ => travelDone i s
      | .dropping _ => if !c && nc && !no then changeShutter i (fun x => { x with state := .closed }) s else s
      | .jammed =>
        if !c && nc && !no then changeShutter i (fun x => { x.release (s.mayMove i) with state := .closed }) s
        else if !o && no && !nc && sh.hold && !s.dropDemand i
            && (match s.floorMode? (s.shutterCfg i).floor with
                | some .opened | some .warned | some .opening => true
                | _ => false) then
          changeShutter i (fun x => { x with state := .opened }) s
        else s
      | .inhibited => s
      | .unknown => resolveShutter i s

/-- A powered travel that did not end in time, or drew too much current (R78): JAMMED with the hold kept, SHUTTER_JAM. -/
def jamShutter (i : Nat) (s : State) : State :=
  (changeShutter i (fun sh => { sh with state := .jammed }) s) |> raiseFault .shutterJam i |> arbiter

/-! ### The chain and the supply (R70, R73, R79, R80) -/

/-- A pending release is carried out (R70); a DROPPING shutter then starts its timer (R74). -/
def releasePendingHold (s : State) (i : Nat) : State :=
  changeShutter i
    (fun sh =>
      if sh.releasePending then
        { sh with hold := false, releasePending := false,
                  state := match sh.state with
                    | .dropping _ => .dropping (some (s.dropTime i))
                    | st => st }
      else sh) s

/-- A shutter leaves WAIT_STILL when the chain is deemed still (R73). -/
def leaveWaitStill (s : State) (i : Nat) : State :=
  match s.shutterState? i with
  | some (.waitStill .drop) => enterDropping i s
  | some (.waitStill .lower) => changeShutter i (fun sh => { sh with state := .waitSlot .down }) s
  | _ => s

/-- The shutters' part of the chain becoming DEEMED_STILL (R36): pending releases are carried out (R70), WAIT_STILL is left in
its order (R73), and the arbiter looks (R82). -/
def shuttersStill (s : State) : State :=
  let t := (List.range s.shutters.table.length).foldl releasePendingHold s
  (t.shutters.stillList.foldl leaveWaitStill t) |> arbiter

/-- A powered shutter stops and rejoins the list at its tail, its direction unchanged and its hold kept (R79, R80). -/
def stopTravel (s : State) (i : Nat) : State :=
  match s.shutterState? i with
  | some (.lowering _) => changeShutter i (fun sh => { sh with state := .waitSlot .down }) s
  | some (.raising _) => changeShutter i (fun sh => { sh with state := .waitSlot .up }) s
  | _ => s

/-- The shutters' part of the chain becoming MOVING (R80). The arbiter looks once, when every shutter has stopped and rejoined
the list, and several rejoin it in shutter order, for which R80 gives none: DESIGN CHOICE (notes/assumptions/30.md). -/
def shuttersMoving (s : State) : State :=
  (((List.range s.shutters.table.length).filter s.isPaternoster).foldl stopTravel s) |> arbiter

/-- A shutter is RAISING. -/
def State.isRaising (s : State) (i : Nat) : Bool :=
  match s.shutterState? i with
  | some (.raising _) => true
  | _ => false

/-- The shutters' part of the supply becoming low (R79). Several RAISING shutters rejoin the list in shutter order, for which R79
gives none: DESIGN CHOICE (notes/assumptions/30.md). -/
def shuttersSupplyLow (s : State) : State :=
  (((List.range s.shutters.table.length).filter s.isRaising).foldl stopTravel s) |> arbiter

/-! ### The field loop (4.8) -/

/-- One shutter when the field loop becomes FAULTED (R91). -/
def loopFaultShutter (s : State) (i : Nat) : State :=
  changeShutter i (fun sh => { sh.release (s.mayMove i) with state := .unknown }) s

/-- The shutters' part of the field loop becoming FAULTED (R91). -/
def shuttersLoopFault (s : State) : State := (List.range s.shutters.table.length).foldl loopFaultShutter s

/-- One shutter at the first good scan after a loop fault (R92), and after start-up (R95). A LIMIT_CONFLICT that the refreshed
limits no longer show ends for an INHIBITED shutter too (R91, R93). -/
def loopReturnShutter (s : State) (i : Nat) : State :=
  if (s.shutter? i).any (·.inhibitedByRequest) && !s.dropDemand i && !s.floorInFire (s.shutterCfg i).floor then
    (conflictEnds i s) |> changeShutter i fun sh => { sh.energise with state := .inhibited }
  else resolveShutter i s

/-- The shutters' part of the field loop returning to GOOD (R92): every shutter is resolved in shutter order. -/
def shuttersLoopReturn (s : State) : State :=
  ((List.range s.shutters.table.length).foldl loopReturnShutter s) |> arbiter

/-! ### Departures (R93) -/

/-- The shutter states between which a paternoster-opening shutter's change is a departure that brakes the chain: out of OPEN
other than to be lowered with its floor, or out of WAIT_STILL (R62, R93). -/
def departs (old new : ShutterState) : Bool :=
  match old, new with
  | .opened, .opened => false
  | .opened, .waitStill .lower => false
  | .opened, _ => true
  | .waitStill _, .waitStill _ => false
  | .waitStill _, _ => true
  | _, _ => false

/-- From `before` to `s` a paternoster-opening shutter has departed (R93). -/
def State.departed (before s : State) : Bool :=
  (List.range s.shutters.table.length).any fun i =>
    s.isPaternoster i &&
      (match before.shutter? i, s.shutter? i with
       | some a, some b => departs a.state b.state
       | _, _ => false)

end Sys2Proof.Machine
end

