-- ==== Sys2Proof/Machine/Drive.lean ====
section
/-! DEFINITION. The Paternoster Drive's operations (chapter 3): changes of state, the brake and the chain deemed still, BRAKE,
WARNING, the levelled stop, the faults that brake. -/

namespace Sys2Proof.Machine

/-! ### Changes of state (R42) -/

/-- The drive changes state: PATERNOSTER is set, PATERNOSTER_HALT on entry to HALT (R42), and the boarding lamps are derived
again (R14). -/
def enterState (st : DriveState) (s : State) : State :=
  (s.modDrive fun d => { d with state := st })
    |> setEvent .paternoster |> setEventIf (st == .halt) .paternosterHalt |> reboard

/-- The drive withdraws its warning and returns from WARNING to OFF (R47, R111). -/
def endWarning (s : State) : State :=
  let ls := s.drive.warningLines.getD []
  ls.foldl lineWithdraw ((s.modDrive fun d => { d with warningLines := none }) |> enterState .off)

/-- WARNING ends where the drive is in it; no other state changes (R47). -/
def warningAbandon (s : State) : State := if s.drive.state == .warning then endWarning s else s

/-! ### The brake (R36, R42, R61, R171) -/

/-- The drive releases the brake and switches drive_enable ON (R46, R64): since_release and the fault counts are 0 (R61),
brake_applied_time is 0 and the chain is MOVING (R36), which the shutters take (R80), and channel 0's 500 ms blanking begins
(R171). -/
def releaseBrake (s : State) : State :=
  let t := (s.modDrive fun d =>
      { d with released := true, enable := true, sinceRelease := 0, wasReleased := true, overspeedCount := 0, stallCount := 0 })
    |> State.modTracker (fun k => { k with brakeAppliedTime := 0, unconfirmedRaised := false, still := false })
    |> State.modChan 0 (Chan.blank 500)
  if s.tracker.still then shuttersMoving t else t

/-- The drive leaves BRAKE for the state in brake_exit (R58): reverse goes OFF, brake_exit and inch_origin are discarded, and
entry to HALT records the fault behind it. -/
def leaveBrake (s : State) : State :=
  let d := s.drive
  let t := (s.modDrive fun d => { d with brakeExit := none, inchOrigin := none, reverse := false })
    |> (if d.reverse then writePoint s.eng.reversePt false else id)
  match d.brakeExit with
  | some .halt =>
    (t.modDrive fun d => { d with haltCause := match d.stopCause with
      | some (.fault k) => some k
      | _ => d.haltCause }) |> enterState .halt
  | _ => enterState .off t

/-- The levelled-stop record once LEVEL has been left (3.5). -/
def LevelRec.close (v : LevelRec) : LevelRec := { v with phase := .ended, deadline := none }

/-- The drive's part of the chain being deemed still: BRAKE is left (R58), and LEVEL in phase SETTLING ends in OFF (R55). -/
def driveStill (s : State) : State :=
  match s.drive.state with
  | .brake => leaveBrake s
  | .level =>
    if s.drive.settling then (s.modDrive fun d => { d with level := d.level.map LevelRec.close }) |> enterState .off else s
  | _ => s

/-- The chain becomes DEEMED_STILL (R36): the shutters act (R70, R73, R82), then the drive. A shutter that leaves WAIT_STILL
in WARNING ends WARNING (R44, R47). -/
def chainStill (s : State) : State :=
  let t := s.modTracker fun k => { k with still := true }
  let u := shuttersStill t
  (if t.departed u then warningAbandon u else u) |> driveStill

/-- The drive applies the brake, switches drive_enable OFF and sets v_ref to 0 (R55, R58): the fault counts are 0 (R61), channel
0 leaves evaluation (R171), and where the chain is deemed still, now or already, the drive goes on at once. -/
def applyBrake (s : State) : State :=
  let t := (s.modDrive fun d => { d with released := false, enable := false, vRef := 0, overspeedCount := 0, stallCount := 0 })
    |> State.modChan 0 Chan.leave
  if s.tracker.still then driveStill t
  else if s.drive.released && 500 ≤ s.tracker.quietTime then chainStill t
  else t

/-! ### BRAKE (R58) -/

/-- The drive enters BRAKE with a brake_exit and a stop_cause (R58). -/
def enterBrake (x : Rest) (c : StopCause) (s : State) : State :=
  (s.modDrive fun d =>
    { d with brakeExit := some x, stopCause := some c, warningLines := none, lastrunTravel := none, inch := none
             level := d.level.map LevelRec.close })
    |> enterState .brake |> applyBrake

/-- What a braking fault that has been raised does (R58, R62): a driven chain and a settling LEVEL brake to HALT, and BRAKE with
brake_exit OFF takes the fault. -/
def brakingFault (k : FaultKind) (s : State) : State :=
  if s.drive.driven || s.drive.settling then enterBrake .halt (.fault k) s
  else if s.drive.state == .brake && s.drive.brakeExit == some .off then
    s.modDrive fun d => { d with brakeExit := some .halt, stopCause := some (.fault k) }
  else s

/-- A fault is raised and the drive brakes on it (R61, R62). -/
def raiseAndBrake (k : FaultKind) (s : State) : State := (raiseFault k 0 s) |> brakingFault k

/-- A paternoster-opening shutter has departed (R62, R93): in REFERENCE, ACCEL, RUN and LASTRUN the drive raises
PAT_SHUTTER_OPENED and brakes to HALT, and WARNING ends. -/
def driveDeparture (s : State) : State :=
  if s.drive.underWay then raiseAndBrake .patShutterOpened s else warningAbandon s

/-- The drive takes the departures between two states of the part (R93). -/
def takeDepartures (before s : State) : State := if before.departed s then driveDeparture s else s

/-! ### The levelled stop (3.5) -/

/-- The drive evaluates the stop profile (R54). -/
def evalProfile (s : State) : State :=
  match s.drive.level with
  | none => s
  | some v => s.modDrive fun d => { d with vRef := stopProfile s.eng v.vNow v.r }

/-- r has reached 0 (R55): phase SETTLING, the deadline is discarded and the brake is applied. -/
def levelArrived (s : State) : State :=
  (s.modDrive fun d => { d with level := d.level.map fun v => { v with phase := .settling, deadline := none } }) |> applyBrake

/-- r has taken a new value (R52, R54): at 0 the stop proceeds, and a smaller value evaluates the profile. -/
def setRemaining (r : Nat) (s : State) : State :=
  match s.drive.level with
  | none => s
  | some v =>
    let t := s.modDrive fun d => { d with level := d.level.map fun x => { x with r := r } }
    if r = 0 then levelArrived t else if r < v.r then evalProfile t else t

/-- The drive enters LEVEL (R51). -/
def enterLevel (c : StopCause) (deadline : Option Nat) (s : State) : State :=
  let v := s.drive.vRef
  let dReq := brakingDistance s.eng v
  let r0 := levelDistance s.eng s.tracker.counter dReq
  (s.modDrive fun d =>
    { d with stopCause := some c, lastrunTravel := none
             level := some ⟨v, dReq, r0, r0, .travel, deadline, 0, false, 10⟩ })
    |> enterState .level |> (if r0 = 0 then levelArrived else evalProfile)

/-! ### Starting (3.4) -/

/-- The drive enters ACCEL, and RUN at once where v_ref already equals v_run (R48). -/
def enterAccel (s : State) : State :=
  let t := (s.modDrive fun d => { d with rampLeft := 10 }) |> enterState .accel
  if t.drive.vRef = t.eng.vRun then enterState .run t else t

/-- WARNING is complete (R46): the starting conditions are tested again, and the chain starts in REFERENCE or ACCEL, or the
drive returns to OFF. -/
def warningComplete (s : State) : State :=
  let t := s.modDrive fun d => { d with warningLines := none }
  if !s.mayStart then enterState .off t
  else if s.tracker.referenced then (t.modDrive fun d => { d with vRef := 0 }) |> enterAccel |> releaseBrake
  else (t.modDrive fun d => { d with vRef := s.eng.vCreep }) |> enterState .reference |> releaseBrake

/-- A floor line's start warning is reported done (R46). -/
def warningDone (n : Nat) (s : State) : State :=
  match s.drive.state, s.drive.warningLines with
  | .warning, some ls =>
    if n ∈ ls then
      if ls.erase n = [] then warningComplete s
      else s.modDrive fun d => { d with warningLines := some (ls.erase n) }
    else s
  | _, _ => s

/-- The drive asks for the start warning on floor line `n`; a line that does not take the request is reported done (R45, R111). -/
def askWarning (s : State) (n : Nat) : State :=
  if s.takesReq n ⟨.startWarning, 1, none⟩ then placeReq n ⟨.startWarning, 1, none⟩ s else warningDone n s

/-- The chain is started (R45). -/
def beginWarning (s : State) : State :=
  (List.range s.eng.floorCount).foldl askWarning
    ((s.modDrive fun d => { d with warningLines := some (List.range s.eng.floorCount) }) |> enterState .warning)

/-! ### Requests, closing and fire (R49, R53, R56, R59) -/

/-- Inching ends in the state it started from (R65). -/
def endInching (s : State) : State := enterBrake (s.drive.inchOrigin.getD .off) .inchEnd s

/-- The closing-begun notice (R49). -/
def closingNotice (s : State) : State :=
  match s.drive.state with
  | .run | .accel => (s.modDrive fun d => { d with lastrunTravel := some 0 }) |> enterState .lastrun
  | .warning => endWarning s
  | .reference => enterBrake .off .closing s
  | _ => s

/-- A floor enters FIRE (R56). -/
def driveFire (s : State) : State :=
  let deadline := s.eng.fireDeadline * 1000
  match s.drive.state with
  | .accel | .run | .lastrun => enterLevel .fire (some deadline) s
  | .level =>
    if s.drive.level.any fun v => v.phase == .travel && v.deadline.isNone then
      s.modDrive fun d =>
        { d with stopCause := some .fire, level := d.level.map fun v => { v with deadline := some deadline } }
    else s
  | .warning => endWarning s
  | .reference | .inch => enterBrake .off .fire s
  | _ => s

/-- What PATERNOSTER_STOP does (R53); OFF, BRAKE and HALT refuse it. -/
def driveStop (s : State) : State :=
  match s.drive.state with
  | .accel | .run | .lastrun => enterLevel .stopRequest none s
  | .reference => enterBrake .off .stopRequest s
  | .warning => endWarning s
  | .inch => endInching s
  | _ => s

/-- What STOP_NOW does (R59); OFF, BRAKE and HALT refuse it. -/
def driveStopNow (s : State) : State :=
  match s.drive.state with
  | .warning => endWarning s
  | _ => if s.drive.driven then enterBrake .off .stopNow s else s

/-- The stop requests are refused in OFF, BRAKE and HALT (R53, R59). -/
def DriveState.refusesStop : DriveState → Bool
  | .off | .brake | .halt => true
  | _ => false

/-! ### Trips and the field loop (R60, R62) -/

/-- A landing trip has become active (R60). -/
def driveTrip (s : State) : State :=
  match s.drive.state with
  | .inch => s
  | .warning => (raiseFault .trip 0 s) |> warningAbandon
  | _ => raiseAndBrake .trip s

/-- The field loop has become FAULTED (R47, R62). -/
def driveLoopFault (s : State) : State := (brakingFault .loop s) |> warningAbandon

/-- OVERLOAD is raised when channel 0's window state becomes HIGH (R62, R173). -/
def driveOverload (s : State) : State := raiseAndBrake .overload s

/-! ### Inching (3.8) -/

/-- No paternoster-opening shutter is LOWERING, RAISING or DROPPING (R64). -/
def State.openingsAtRest (s : State) : Bool :=
  (List.range s.shutters.table.length).all fun i =>
    !s.isPaternoster i || (match s.shutterState? i with
      | some (.lowering _) | some (.raising _) | some (.dropping _) => false
      | _ => true)

/-- INCH may begin from OFF or HALT (R64). -/
def State.mayInch (s : State) : Bool := !s.firePresent && s.loop.good && s.openingsAtRest

/-- Inching begins (R64). -/
def beginInch (origin : Rest) (dir : Direction) (s : State) : State :=
  (s.modDrive fun d =>
    { d with inch := some ⟨dir, 600, false, false⟩, inchOrigin := some origin, reverse := dir == .reverse })
    |> writePoint s.eng.reversePt (dir == .reverse) |> enterState .inch

/-- The end of a good scan (R64): where that scan began after INCH was accepted, inch_started is set, the brake is released and
the ramp begins. -/
def inchDelivered (s : State) : State :=
  match s.drive.state, s.drive.inch with
  | .inch, some i =>
    if i.scanBegun && !i.started then
      (s.modDrive fun d => { d with inch := some { i with started := true }, rampLeft := 10 }) |> releaseBrake
    else s
  | _, _ => s

/-! ### Ticks and windows (R50, R52, R55, R61) -/

/-- A count of net forward travel after one tick: a forward tick increments it and a reverse tick decrements it, not below 0. -/
def netTravel (dir : Direction) (n : Nat) : Nat :=
  match dir with
  | .forward => n + 1
  | .reverse => n - 1

/-- A tick in the last circuit (R50). -/
def tickLastrun (dir : Direction) (s : State) : State :=
  let n := netTravel dir (s.drive.lastrunTravel.getD 0)
  let t := s.modDrive fun d => { d with lastrunTravel := some n }
  if s.loopLength ≤ n then enterLevel .closing none t else t

/-- A tick of the overrun (R55). -/
def tickOverrun (dir : Direction) (v : LevelRec) (s : State) : State :=
  let n := min 65535 (netTravel dir v.overrun)
  let miss := s.eng.levelTol < n && !v.missRaised
  (s.modDrive fun d => { d with level := some { v with overrun := n, missRaised := v.missRaised || miss } })
    |> (if miss then raiseFault .levelMiss 0 else id)

/-- The drive takes a tick (R25). -/
def driveTick (dir : Direction) (s : State) : State :=
  match s.drive.state with
  | .lastrun => tickLastrun dir s
  | .level =>
    match s.drive.level with
    | none => s
    | some v =>
      match v.phase with
      | .travel => setRemaining (match dir with
          | .forward => v.r - 1
          | .reverse => v.r + 1) s
      | .settling => tickOverrun dir v s
      | .ended => s
  | _ => s

/-- The drive takes an index correction (R52). -/
def driveCorrection (d : Int) (s : State) : State :=
  match s.drive.state, s.drive.level with
  | .level, some v => if v.phase = .travel then setRemaining ((v.r : Int) + d).toNat s else s
  | _, _ => s

/-- The overspeed limit (R61). -/
def State.overspeedLimit (s : State) : Nat := (if s.drive.state = .inch then s.eng.vInch else s.eng.vRun) + s.eng.vRun / 8

/-- The drive judges a completed speed window (R61). -/
def judgeWindow (s : State) : State :=
  if s.drive.driven && s.drive.released then
    let fast := if s.overspeedLimit < s.tracker.measuredSpeed then s.drive.overspeedCount + 1 else 0
    let stall :=
      if s.drive.sinceRelease < 1000 then s.drive.stallCount
      else if s.tracker.measuredSpeed < s.drive.vRef / 4 then s.drive.stallCount + 1
      else 0
    let t := s.modDrive fun d => { d with overspeedCount := fast, stallCount := stall }
    if 2 ≤ fast then raiseAndBrake .overspeed t
    else if 20 ≤ stall then raiseAndBrake .stall t
    else t
  else s

end Sys2Proof.Machine
end

