-- ==== Sys2Proof/Machine/Announce.lean ====
section
/-! DEFINITION. The Announcement Sequencer and the phrase player port (chapter 7): the playout queue, playouts, the evacuation
entry, the words to the player and the port's faults. -/

namespace Sys2Proof.Machine

/-! ### The playout queue (R147) -/

/-- A new entry stands after every entry of the same or a higher class and before every entry of a lower class (R147). -/
def insertEntry (q : QueueEntry) : List QueueEntry → List QueueEntry
  | [] => [q]
  | x :: xs => if x.cls.code ≤ q.cls.code then x :: insertEntry q xs else q :: x :: xs

/-- A returned entry stands at the head of its class (R155). -/
def returnEntry (q : QueueEntry) : List QueueEntry → List QueueEntry
  | [] => [q]
  | x :: xs => if x.cls.code < q.cls.code then x :: returnEntry q xs else q :: x :: xs

/-- Updates the playout queue. -/
def State.modQueue (f : List QueueEntry → List QueueEntry) (s : State) : State :=
  s.modAnnounce fun a => { a with queue := f a.queue }

/-- Updates the on-air or tail record. -/
def State.modPlayout (f : Playout → Playout) (s : State) : State :=
  s.modAnnounce fun a => { a with playout := a.playout.map f }

/-- Updates the port. -/
def State.modPort (f : Port → Port) (s : State) : State := s.modAnnounce fun a => { a with port := f a.port }

/-- Updates the operating part. -/
def State.modOp (f : Op → Op) (s : State) : State := s.modStore fun st => { st with op := f st.op }

/-- The planner's request to queue a closing script (R149). -/
def queueClosing (slot : Nat) (s : State) : State :=
  if s.queued slot || s.onAir slot || (s.copy? slot).isNone then s
  else s.modQueue (insertEntry ⟨slot, .closing, s.clock.count, none⟩)

/-- The planner has every CLOSING entry removed (R149). -/
def dropClosing (s : State) : State := s.modQueue fun qs => qs.filter fun q => q.cls != .closing

/-! ### Beginning a playout (R151) -/

/-- An entry is eligible (R151). -/
def State.mayPlay (s : State) (q : QueueEntry) : Bool :=
  match q.cls with
  | .evac => q.gap.all (· == 0)
  | _ => !s.firePresent

/-- The floors a playout is heard on (R144, R151). -/
def State.playFloors (s : State) (q : QueueEntry) : List Nat :=
  match q.cls with
  | .evac => List.range s.eng.floorCount
  | _ => bitsBelow (min 8 s.eng.floorCount) (((s.copy? q.slot).map (·.mask)).getD 0)

/-- A playout of an entry begins: it leaves the queue, the relays of its floors close and the 500 ms lead runs (R151, R152). -/
def beginPlayout (q : QueueEntry) (s : State) : State :=
  let floors := s.playFloors q
  let relays := floors.map fun f => s.eng.speakers.getD f 0
  (s.modAnnounce fun a =>
    { a with queue := a.queue.erase q
             playout := some ⟨q.slot, q.cls, q.queuedAt, s.clock.count, floors, relays, .lead, 0, 0, 0, false, none, false, 500⟩ })
    |> writePoints relays true

/-- The sequencer looks for the next entry (R151): with no playout, the port IDLE and an eligible entry, the first of them
begins. -/
def look (s : State) : State :=
  if s.announce.playout.isNone && s.announce.port.state == .idle then
    match s.announce.queue.find? s.mayPlay with
    | some q => beginPlayout q s
    | none => s
  else s

/-! ### Words to the player (R156) -/

/-- PLAY of phrase `n` is sent: STARTING, with 100 ms for READY to go high from the end of the exchange (R156). -/
def portPlay (n : Nat) (s : State) : State :=
  s.modPort fun p => { p with state := .starting, startTimer := some 100, outbox := p.outbox ++ [.play n] }

/-- STATUS is sent from IDLE (R152, R156). -/
def portStatus (s : State) : State := s.modPort fun p => { p with outbox := p.outbox ++ [.status] }

/-- The sequencer asks for an abort (R156). -/
def portAbort (s : State) : State :=
  match s.announce.port.state with
  | .starting => s.modPort fun p => { p with state := .idle, startTimer := none, outbox := p.outbox ++ [.abort] }
  | .playing =>
    s.modPort fun p => { p with phraseTimer := none, abortWait := some 100, outbox := p.outbox ++ [.abort] }
  | _ => s

/-- The phrase list of the playout (R145: the current copy does not change while the slot is on air). -/
def State.phrases (s : State) (slot : Nat) : List Nat := ((s.copy? slot).map (·.phrases)).getD []

/-- PLAY of the phrase at phrase_index is sent (R152); PLAY is sent only from IDLE (R156). -/
def sendPhrase (s : State) : State :=
  match s.announce.playout, s.announce.port.state with
  | some p, .idle =>
    (s.modPlayout fun x => { x with phase := .phrase, phrasesSent := x.phrasesSent + 1, timer := 0 })
      |> portPlay ((s.phrases p.slot).getD p.phraseIndex 0)
  | _, _ => s

/-! ### Leaving the air (R146, R152, R153, R155) -/

/-- A slot's pending copy becomes current (R146). -/
def applyPending (slot : Nat) (s : State) : State :=
  match (s.announce.pendingCopies[slot]?).join with
  | none => s
  | some c =>
    (s.modOp fun o => { o with scripts := o.scripts.set slot (some c) })
      |> State.modAnnounce (fun a => { a with pendingCopies := a.pendingCopies.set slot none })

/-- The playout leaves the air (R152): its slot's pending copy is applied (R146), its entry returns where it may (R155), the
outcome is recorded and the 500 ms tail begins (R153). -/
def leaveAir (o : PlayOutcome) (back : Bool) (s : State) : State :=
  match s.announce.playout with
  | none => s
  | some p =>
    (applyPending p.slot s).modAnnounce fun a =>
      { a with queue := if back then returnEntry ⟨p.slot, p.cls, p.queuedAt, none⟩ a.queue else a.queue
               playout := some { p with phase := .tail, outcome := some o, returned := back, timer := 500 } }

/-- A playout is on air, not in its tail (7.3). -/
def State.airborne (s : State) : Option Playout := s.announce.playout.filter fun p => p.phase != .tail

/-- Whether the entry of a playout that leaves the air early returns to the queue (R155, R158). An EVAC entry whose port faults
returns though fire present may have ended, as R158 states without that condition: DESIGN CHOICE against R154
(notes/assumptions/32.md). -/
def State.mayReturn (s : State) (p : Playout) : Bool :=
  !p.cancelled && !(p.cls == .closing && s.plan.status == .abandoned)

/-- A floor enters FIRE: a CLOSING or OFFICE playout on air is pre-empted (R155). -/
def preempt (s : State) : State :=
  match s.airborne with
  | none => s
  | some p =>
    if p.cls = .evac then s
    else (if p.phase = .phrase then portAbort s else s)
      |> leaveAir (if p.cancelled then .cancelled else .aborted) (s.mayReturn p)

/-- The port reports the phrase ended (R152): the next phrase follows after a gap of 200 ms, or the playout leaves the air and
STATUS collects the last result. A playout both cancelled and at its last phrase ends CANCELLED: DESIGN CHOICE
(notes/assumptions/9.md). The last phrase of a cancelled playout is the one that was sounding, so STATUS follows it too, and a
playout that leaves the air in its lead or a gap sends none: DESIGN CHOICE (notes/assumptions/32.md). -/
def phraseEnded (s : State) : State :=
  match s.airborne with
  | none => s
  | some p =>
    if p.phase = .phrase then
      let t := s.modPort fun x => { x with resultDue := .standing }
      if p.cancelled then (leaveAir .cancelled false t) |> portStatus
      else if p.phraseIndex + 1 < (s.phrases p.slot).length then
        t.modPlayout fun x => { x with phraseIndex := x.phraseIndex + 1, phase := .gap, timer := 200 }
      else (leaveAir .complete false t) |> portStatus
    else s

/-! ### Evacuation (R154) -/

/-- The sequencer keeps slot 7 on air or queued while fire is present (R154). -/
def keepEvac (gap : Option Nat) (s : State) : State :=
  if s.firePresent && (s.copy? 7).isSome && !s.onAir 7 && !s.inTail 7 && !s.queued 7 then
    s.modQueue fun qs => ⟨7, .evac, s.clock.count, gap⟩ :: qs
  else s

/-- When fire present ends, a queued EVAC entry is removed (R154). -/
def dropEvac (s : State) : State := s.modQueue fun qs => qs.filter fun q => q.cls != .evac

/-! ### The port's faults (R158) -/

/-- The port enters FAULTED (R158). An EVAC playout that has outlived the fire returns its entry here, and it plays after the
recovery: DESIGN CHOICE (notes/assumptions/32.md). -/
def portFault (c : PortCause) (s : State) : State :=
  let t := (s.modPort fun p =>
      { p with state := .faulted, startTimer := none, phraseTimer := none, abortWait := none, readyLowTime := 0
               faultCause := some c })
    |> raiseFault .player 0 |> setEvent .player
  match s.airborne with
  | none => t
  | some p => leaveAir .faulted (s.mayReturn p) t

/-- The port returns from FAULTED to IDLE (R158), unreported where PLAYER has not been raised for the fault of start-up (R160). -/
def portRecover (s : State) : State :=
  let p := s.announce.port
  let t := s.modPort fun p => { p with state := .idle, faultCause := none, readyLowTime := 0 }
  (if p.faultCause == some .startUp && !p.startUpRaised then t else (endFault .player 0 t) |> setEvent .player) |> look

/-- A MISSING result is counted (R157): not that of a phrase cut short, which an ABORT clocks in where no result was outstanding
before it and the next word clocks in after it. -/
def ResultDue.counts (due : ResultDue) (w : PlayerWord) : Bool :=
  match due with
  | .standing | .gone => true
  | .nothing => w != .abort
  | .cut => false

/-- An exchange of a word ends with the status word of the player (R157). -/
def exchangeEnd (w : PlayerWord) (status : Word) (s : State) : State :=
  let due := s.announce.port.resultDue
  let t := s.modPort fun p => { p with resultDue := if w == .abort then .cut else .nothing }
  if statusMissing status && due.counts w then
    (t.modPort fun p => { p with missingCount := min 65535 (p.missingCount + 1) })
      |> (if due == .standing then State.modPlayout (fun x => { x with missing := x.missing + 1 }) else id)
  else t

/-! ### The end of a tail (R153) -/

/-- The tail ends (R153): the relays open, the last-playout record is written, ANNOUNCEMENT_DONE is set, the next evacuation
entry is made (R154) and the sequencer looks again. A relay point that an apply has meanwhile given another purpose is written off
like the others: DESIGN CHOICE (notes/assumptions/32.md). -/
def tailEnd (p : Playout) (s : State) : State :=
  (s.modAnnounce fun a =>
    { a with playout := none
             last := some ⟨p.slot, p.cls, p.startedAt, s.clock.count, p.phrasesSent, p.missing, p.outcome, p.returned⟩
             port := { a.port with resultDue := if a.port.resultDue == .standing then .gone else a.port.resultDue } })
    |> writePoints p.relays false |> setEvent .announcementDone
    |> keepEvac (if p.cls = .evac then some 5000 else none) |> look

end Sys2Proof.Machine
end

