-- ==== Sys2Proof/Machine/Planner.lean ====
section
/-! DEFINITION. The Store Clock and the Closing Planner (chapter 6): closing times, the rebuild and the evaluation of the plan
record, the stages. -/

namespace Sys2Proof.Machine

/-! ### Closing times (R129, R132) -/

/-- The exception list keeps no day below the current one (R132). -/
def pruneExceptions (s : State) : State :=
  s.modOp fun o => { o with exceptions := o.exceptions.filter fun (x : PlanException) => s.today ≤ x.day }

/-- The base closing time of a day as a store count, or `none` (R129). -/
def State.baseClose (s : State) (day : Nat) : Option Nat :=
  (match s.store.op.exceptions.find? fun (x : PlanException) => x.day == day with
   | some x => x.closing
   | none => s.store.op.schedule.getD (s.weekday day) none).map fun c => day * 86400 + c

/-- The record's day counts as below the current day (R132), as every day given before a wrap does. -/
def State.planDayPast (s : State) : Bool := s.plan.beforeWrap || s.plan.day < s.today

/-- The record is carried (R132). -/
def State.planCarried (s : State) : Bool := (s.plan.status == .waiting || s.plan.status == .running) && s.planDayPast

/-! ### The record (R131, R133) -/

/-- The plan record takes new values; CLOSING_STAGE is set on a change of any field (R131). It is set once for each record put that
differs from the one before it, however many fields do, and again for each further record that a rule puts in the same command, which
R131 leaves open: DESIGN CHOICE (notes/assumptions/46.md). -/
def putPlan (p : Plan) (s : State) : State :=
  setEventIf ({ p with beforeWrap := s.plan.beforeWrap, positionWait := s.plan.positionWait } != s.plan
      || p.positionWait.isSome != s.plan.positionWait.isSome) .closingStage
    (s.modPlan fun _ => p)

/-- The status that the record takes in a rebuild (R133, step 4). -/
def Plan.rebuiltStatus (p : Plan) (floors : Nat) : PlanStatus :=
  if p.status = .abandoned then .abandoned
  else if p.status = .done then .done
  else match p.close with
    | .taken => if p.nextPosition < floors then .running else .done
    | .skipped => .done
    | .pending => if p.baseClose.isNone then .none else .waiting

/-- The fields of the record before the status is set in a rebuild (R133, steps 2 and 3): a carried record keeps them all. -/
def State.redatedPlan (s : State) : Plan :=
  if s.planCarried then s.plan
  else
    let p := if s.planDayPast then Plan.blank s.today else { s.plan with day := s.today }
    { p with baseClose := s.baseClose s.today }

/-- The record that a rebuild gives (R133). -/
def State.rebuiltPlan (s : State) : Plan :=
  if !s.clock.isSet || !s.supervising then Plan.blank s.today
  else
    let p := s.redatedPlan
    let st := p.rebuiltStatus s.eng.floorCount
    { p with status := st, positionWait := if st = .running then p.positionWait else none }

/-- The planner rebuilds the plan record (R133). -/
def rebuildPlan (s : State) : State := putPlan s.rebuiltPlan s

/-! ### Stages (R134 to R138) -/

/-- The effective closing time T (R131). -/
def Plan.closeTime (p : Plan) : Nat := p.baseClose.getD 0 + 60 * p.holdTotal

/-- The time of a stage with a lead in minutes; a time below 0 is taken as 0 (R134). -/
def Plan.stageTime (p : Plan) (lead : Nat) : Nat := p.closeTime - 60 * lead

/-- The store count as the stages of the record see it: counted on past a wrap for a record of before it (R132). -/
def State.planCount (s : State) : Nat := if s.plan.beforeWrap then s.clock.count + 4294967296 else s.clock.count

/-- A floor that is OPEN becomes WARNED (R10, R136). -/
def warnFloor (s : State) (f : Nat) : State := if s.floorMode? f == some .opened then setMode f .warned s else s

/-- The WARN1 stage is taken (R136). -/
def takeWarn1 (s : State) : State :=
  let t := (queueClosing 0 s)
  let u := placeClosing t.lineNumbers t
  ((List.range u.floors.table.length).foldl warnFloor u)
    |> fun v => putPlan { v.plan with warn1 := .taken } v

/-- The WARN2 stage is taken (R137). -/
def takeWarn2 (s : State) : State := (queueClosing 1 s) |> fun t => putPlan { t.plan with warn2 := .taken } t

/-- A floor that may enter CLOSING (R10, R138). -/
def FloorMode.mayClose : FloorMode → Bool
  | .opened | .warned | .opening => true
  | _ => false

/-- The planner asks for floor `f` to enter CLOSING (R138): the mode changes, the drive takes the notice (R49), the shutters are
lowered (R75) and the closing pattern is placed on the floor's line (R112). A floor in another mode is passed over. R10, R49, R75 and
R138 give the notice and the lowering no order; the notice goes first: DESIGN CHOICE (notes/assumptions/8.md). -/
def closeFloor (f : Nat) (s : State) : State :=
  if (s.floorMode? f).any FloorMode.mayClose then
    let t := (setMode f .closing s) |> closingNotice
    (takeDepartures t (lowerFloor f t)) |> placeReq f ⟨.closing, 2, none⟩
  else s

/-- The position that is next is taken (R138). -/
def takePosition (s : State) : State :=
  let i := s.plan.nextPosition
  let t := match s.store.op.order[i]? with
    | some f => closeFloor f s
    | none => s
  if i + 1 < t.eng.floorCount then
    putPlan { t.plan with nextPosition := i + 1, positionWait := some (t.store.op.stagger * 1000) } t
  else putPlan { t.plan with nextPosition := i + 1, positionWait := none, status := .done } t

/-- Positions are taken until one has to wait for its stagger; with S 0 every position is taken at once (R134, R138). -/
def takePositions : Nat → State → State
  | 0, s => s
  | n + 1, s =>
    let t := takePosition s
    if t.plan.status = .running && t.store.op.stagger = 0 then takePositions n t else t

/-- The CLOSE stage is taken (R138). -/
def takeClose (s : State) : State :=
  (queueClosing 2 s)
    |> fun t => putPlan { t.plan with close := .taken, nextPosition := 0, status := .running } t
    |> takePositions 8

/-- A stage not yet done is marked SKIPPED. -/
def Marker.skip (m : Marker) : Marker := if m = .pending then .skipped else m

/-- What becomes of a stage not yet done that is earlier than the latest one due: taken with it where it shares its time
(R135). -/
def earlier (m : Marker) (own latest : Nat) (take : State → State) (skip : Plan → Plan) (s : State) : State :=
  if m = .pending then if own = latest then take s else putPlan (skip s.plan) s else s

/-- The planner takes the stages that are due (R135). -/
def takeDue (s : State) : State :=
  let p := s.plan
  let w1 := p.stageTime s.store.op.w1
  let w2 := p.stageTime s.store.op.w2
  if p.closeTime ≤ s.planCount then
    (earlier p.warn1 w1 p.closeTime takeWarn1 (fun q => { q with warn1 := .skipped }) s)
      |> earlier p.warn2 w2 p.closeTime takeWarn2 (fun q => { q with warn2 := .skipped })
      |> takeClose
  else if p.warn2 = .pending && w2 ≤ s.planCount then
    (earlier p.warn1 w1 w2 takeWarn1 (fun q => { q with warn1 := .skipped }) s) |> takeWarn2
  else if p.warn1 = .pending && w1 ≤ s.planCount then takeWarn1 s
  else s

/-- Stages are taken only while the clock is set, the part is SUPERVISING, no floor is in FIRE and the status is WAITING
(R135). -/
def State.mayTakeStages (s : State) : Bool :=
  s.clock.isSet && s.supervising && !s.firePresent && s.plan.status == .waiting

/-- One evaluation of the record (R135). -/
def evaluateOnce (s : State) : State := if s.mayTakeStages then takeDue s else s

/-- A record of a past day has become DONE or ABANDONED (R132). -/
def State.planSettles (s : State) : Bool := (s.plan.status == .done || s.plan.status == .abandoned) && s.planDayPast

/-- A carried record that has become DONE or ABANDONED is rebuilt at once for the current day and evaluated (R132). -/
def settlePlan (s : State) : State := if s.planSettles then evaluateOnce (rebuildPlan s) else s

/-- The planner evaluates the record (R135); the sequencer then looks for what was queued (R151). -/
def evaluatePlan (s : State) : State := (evaluateOnce s) |> settlePlan |> look

/-- The plan's part of a write that concerns it: rebuilt, then evaluated (R127, R128, R130). -/
def replan (s : State) : State := (rebuildPlan s) |> evaluatePlan

/-- A floor enters FIRE (R140); `inFire` says whether fire was present before it did. A record that is WAITING while fire is present was
built after the fire began, since the floor that began it left none WAITING, and such a record is not abandoned. -/
def abandonPlan (inFire : Bool) (s : State) : State :=
  if (s.plan.status == .waiting && !inFire) || s.plan.status == .running then
    (putPlan { s.plan with status := .abandoned, positionWait := none } s) |> dropClosing |> settlePlan
  else s

/-- The stages whose times have come at start-up and at an apply are marked SKIPPED (R143). -/
def markPassed (s : State) : State :=
  if s.plan.status = .waiting then
    let p := s.plan
    let c := s.planCount
    let mark := fun (m : Marker) (t : Nat) => if t ≤ c then m.skip else m
    let q := { p with warn1 := mark p.warn1 (p.stageTime s.store.op.w1), warn2 := mark p.warn2 (p.stageTime s.store.op.w2)
                      close := mark p.close p.closeTime }
    putPlan { q with status := if q.close = .skipped then .done else .waiting } s
  else s

/-! ### The clock (R122, R123, R132) -/

/-- The record is rebuilt unless it is carried (R132). -/
def redate (s : State) : State := if s.planCarried then s else rebuildPlan s

/-- The day has changed (R132): the list is pruned and the record is rebuilt unless it is carried. -/
def dayChange (s : State) : State := (pruneExceptions s) |> redate

/-- A wrap of the store count (R132): the list is emptied, and a WAITING or RUNNING record is carried. -/
def wrapDay (s : State) : State :=
  (s.modOp fun o => { o with exceptions := [] })
    |> State.modPlan (fun p => { p with beforeWrap := true }) |> redate

/-- The floors of the closing order that are still to be closed (R141). -/
def State.stillToClose (s : State) : List Nat :=
  s.store.op.order.filter fun f => (s.floorMode? f).any FloorMode.mayClose

/-- An order is a permutation of the floors (R130). -/
def isOrder (floors : Nat) (order : List Nat) : Bool :=
  order.length == floors && (List.range floors).all fun f => order.contains f

/-- The order F−1, F−2, … 0 (R130). -/
def topDown (floors : Nat) : List Nat := (List.range floors).reverse

/-- The table rewrites closing_position of every floor (R1). -/
def placeFloors (s : State) : State :=
  s.modFloors fun t =>
    { t with table := t.table.zipIdx.map fun (fl, f) => { fl with closingPosition := s.store.op.order.idxOf f } }

end Sys2Proof.Machine
end

