-- ==== Sys2Proof/Machine/Fire.lean ====
section
/-! DEFINITION. The fire state (1.2, 1.3): zones, the general alarm, floors entering FIRE and what each block does, silence,
restore, and the reopening of the store (R12). -/

namespace Sys2Proof.Machine

/-- The causes of a floor with one more added (R4). -/
def FireCause.add (c : FireCause) : Option FireCause → FireCause
  | none => c
  | some d => if d = c then c else .both

/-- A cause reaches a floor (R4). -/
def Floor.burn (c : FireCause) (now : Nat) (f : Floor) : Floor :=
  if f.mode = .fire then { f with cause := some (c.add f.cause) }
  else { f with mode := .fire, cause := some c, modeSince := now }

/-- The silence flag is cleared; each change of it sets ZONE (R8). -/
def clearSilence (s : State) : State :=
  if s.floors.silence then (s.modFloors fun t => { t with silence := false }) |> setEvent .zone else s

/-- A cause reaches the floors of a list in the table (R4): each floor that enters FIRE sets FLOOR_MODE. -/
def burnFloors (fs : List Nat) (c : FireCause) (s : State) : State :=
  fs.foldl (fun t f =>
    setEventIf (s.floorMode? f != some .fire) .floorMode (t.modFloor f (Floor.burn c s.clock.count))) s |> reboard

/-- Shutter `i` is dropped by a fire (R71): its drop demand turns from false to true, or its floor enters FIRE. -/
def State.fireDrops (before s : State) (entering : List Nat) (i : Nat) : Bool :=
  (!before.dropDemand i && s.dropDemand i) || entering.contains (s.shutterCfg i).floor

/-- A cause reaches the floors of a list, and every block acts (R4): the drive (R56), the shutters (R71), the bells (R113), the
sequencer (R155), the planner (R140) and the evacuation (R154). `before` is the part before the alarm.
Where several floors enter FIRE in one step each block acts once: the record rebuilt for the current day when a carried one is
abandoned (R132) was built after the fire began, and the further floors do not abandon it (R140). The arbiter looks once, when every
shutter has been dropped, and not after each slot that a drop releases: DESIGN CHOICE (notes/assumptions/30.md). -/
def fireArrives (before : State) (fs : List Nat) (c : FireCause) (s : State) : State :=
  let entering := fs.filter fun f => (s.floorMode? f).any fun m => m != .fire
  let t := burnFloors (fs.filter (· < s.floors.table.length)) c s
  let u := if t.floors.table != s.floors.table then driveFire t else t
  let v := ((List.range u.shutters.table.length).filter (before.fireDrops u entering)).foldl fireDropShutter u
  let w := takeDepartures u (arbiter v)
  if entering.isEmpty then ringBegins w
  else (bellsEnterFire w) |> preempt |> abandonPlan before.firePresent |> keepEvac none |> look

/-- A zone becomes ALARM (R2, R5). -/
def zoneIntoAlarm (z : Nat) (s : State) : State :=
  (s.modZone z fun x => { x with alarm := true, since := s.clock.count })
    |> setEvent .zone |> clearSilence |> fireArrives s [((s.floors.zones[z]?).map (·.floor)).getD 0] .zone

/-- A zone becomes CLEAR (R2, R6). -/
def zoneIntoClear (z : Nat) (s : State) : State :=
  (s.modZone z fun x => { x with alarm := false, since := s.clock.count }) |> setEvent .zone

/-- A source of the general alarm changes (R3): ZONE is set for the source and for a change of the general alarm itself, and
general alarm going active reaches every floor. -/
def alarmChange (g : Floors → Floors) (s : State) : State :=
  let t := (s.modFloors g) |> setEvent .zone
  if t.generalAlarm = s.generalAlarm then t
  else if t.generalAlarm then
    (setEvent .zone t) |> clearSilence |> fireArrives s (List.range s.floors.table.length) .general
  else setEvent .zone t

/-- The silence flag is set (R8), and the fire ring stops (R114). -/
def silenceFire (s : State) : State :=
  if s.floors.silence then s
  else (s.modFloors fun t => { t with silence := true }) |> setEvent .zone |> ringStops

/-- The floors in FIRE (R9). -/
def State.burning (s : State) : Nat := s.floors.table.countP fun f => f.mode == .fire

/-- The building is restored (R9): every floor in FIRE becomes CLOSED, FLOOR_MODE is set once, the silence flag is cleared; the
bells serve their queues and due rounds begin (R114), the EVAC entry goes (R154), the planner evaluates (R135) and the sequencer
looks (R151). The bells before the planner, and the planner before the sequencer, which no rule orders: DESIGN CHOICE
(notes/assumptions/8.md). -/
def restoreFire (s : State) : State :=
  if s.firePresent then
    (s.modFloors fun t =>
      { t with table := t.table.map fun f =>
          if f.mode == .fire then { f with mode := .closed, cause := none, modeSince := s.clock.count } else f })
      |> setEvent .floorMode |> reboard |> clearSilence |> ringStops |> dueRoundsBegin |> dropEvac |> evaluatePlan
  else s

/-- The CLOSED floors, which OPEN_STORE makes OPENING (R12). -/
def State.closedFloors (s : State) : List Nat :=
  (List.range s.floors.table.length).filter fun f => s.floorMode? f == some .closed

/-- The store is reopened (R12, R76): every CLOSED floor becomes OPENING, the CLOSED shutters of those floors are taken in
shutter order, the arbiter looks and each floor makes its test (R11). -/
def reopenStore (s : State) : State :=
  let fs := s.closedFloors
  let t := fs.foldl (fun u f => setMode f .opening u) s
  let v := ((List.range t.shutters.table.length).filter fun i => fs.contains (t.shutterCfg i).floor).foldl raiseShutter t
  fs.foldl (fun u f => finishTest f u) (arbiter v)

end Sys2Proof.Machine
end

