-- ==== Sys2Proof/Machine/Chain.lean ====
section
/-! DEFINITION. The Chain Tracker's operations (chapter 2): transitions of the encoder, ticks, the index check, the landings. -/

namespace Sys2Proof.Machine

/-- How the decoder classifies a change of the filtered pair (R24): a tick of a direction, an invalid transition, or no change. -/
inductive Transition where
  | unchanged
  | invalid
  | tick (dir : Direction)
deriving DecidableEq, Repr

/-- The table of R24: from the pair last recorded, `a` and `b`, to the pair found, `a'` and `b'`. -/
def classify (a b a' b' : Bool) : Transition :=
  match a, b, a', b' with
  | false, false, true, false | true, false, true, true | true, true, false, true | false, true, false, false =>
    .tick .forward
  | false, false, false, true | true, false, false, false | true, true, true, false | false, true, true, true =>
    .tick .reverse
  | false, false, true, true | true, false, false, true | true, true, false, false | false, true, true, false => .invalid
  | false, false, false, false | true, false, true, false | true, true, true, true | false, true, false, true => .unchanged

/-- The referenced flag takes a value; each change of it sets PATERNOSTER (R42). -/
def setReferenced (b : Bool) (s : State) : State :=
  setEventIf (s.tracker.referenced != b) .paternoster (s.modTracker fun k => { k with referenced := b })

/-- The counter after a tick, wrapping at Lc (R25). -/
def stepCounter (dir : Direction) (len c : Nat) : Nat :=
  match dir with
  | .forward => if c + 1 < len then c + 1 else 0
  | .reverse => if c = 0 then len - 1 else c - 1

/-- What a valid tick does in the tracker alone with a geometry (R25, R26, R31): the counter, the pitch of travel, the travel
since the index. -/
def Tracker.advance (dir : Direction) (len pitch : Nat) (k : Tracker) : Tracker :=
  { k with counter := stepCounter dir len k.counter
           travel := if k.referenced then netTravel dir k.travel else k.travel
           pitchTravel := if k.pitchTravel + 1 < pitch then k.pitchTravel + 1 else 0
           errorCount := if k.pitchTravel + 1 < pitch then k.errorCount else 0 }

/-- What every valid tick does in the tracker (R25, R35): direction, quiet_time and the speed window. -/
def Tracker.sense (dir : Direction) (k : Tracker) : Tracker :=
  { k with direction := dir, quietTime := 0, windowTicks := min 6553 (k.windowTicks + 1) }

/-- A tick with the brake applied for less than 8,000 ms makes a still chain MOVING (R36, R80). -/
def tickMoves (s : State) : State :=
  if s.tracker.still && !s.drive.released && s.tracker.brakeAppliedTime < 8000 then
    (s.modTracker fun k => { k with still := false }) |> shuttersMoving
  else s

/-- INDEX_MISSING (R31): a forward tick has taken travel_since_index beyond Lc and the slip tolerance. -/
def indexMissing (s : State) : State :=
  (raiseFault .indexMissing 0 s) |> setReferenced false |> brakingFault .indexMissing

/-- A valid tick (R25). In LOADING and UNCONFIGURED there is no geometry: the tick sets direction and quiet_time and counts in
the speed window. In a tick that makes a still chain MOVING and raises INDEX_MISSING too, the shutters and the arbiter act first (R80):
DESIGN CHOICE (notes/assumptions/8.md). -/
def takeTick (dir : Direction) (s : State) : State :=
  let t := (s.modTracker (Tracker.sense dir)) |> tickMoves
  match t.store.eng with
  | none => t
  | some e =>
    let u := t.modTracker (Tracker.advance dir t.loopLength e.pitch)
    (if dir = .forward && u.tracker.referenced && u.loopLength + e.slip < u.tracker.travel then indexMissing u else u)
      |> driveTick dir

/-- An invalid transition (R26); not counted in LOADING and UNCONFIGURED. -/
def invalidTransition (s : State) : State :=
  if s.store.eng.isSome then
    let t := s.modTracker fun k => { k with errorCount := min 255 (k.errorCount + 1) }
    if s.tracker.errorCount = 4 then raiseAndBrake .encoder t else t
  else s

/-- The deviation of an index met at counter `c` (R30). -/
def deviation (len c : Nat) : Int := if c ≤ len / 2 then (c : Int) else (c : Int) - (len : Int)

/-- An index taken while the chain is unreferenced references it (R29), and REFERENCE moves on to ACCEL (R48). -/
def indexReferences (s : State) : State :=
  let t := (s.modTracker fun k => { k with counter := 0, travel := 0 }) |> setReferenced true
  if t.drive.state = .reference then enterAccel t else t

/-- An index taken while the chain is referenced is checked (R30). -/
def indexChecks (s : State) : State :=
  let d := deviation s.loopLength s.tracker.counter
  let t := s.modTracker fun k => { k with counter := 0, travel := 0, lastDeviation := some d }
  if d.natAbs ≤ s.eng.slip then (t.modTracker fun k => { k with lastCorrection := some d }) |> driveCorrection d
  else (raiseFault .chainSlip 0 t) |> setReferenced false |> brakingFault .chainSlip

/-- The car at a landing point and the distance past it (R34). -/
def State.carAt (s : State) (x : Nat) : Nat × Nat :=
  let q := (((s.tracker.counter : Int) - (x : Int)) % (s.loopLength : Int)).toNat
  (q / s.eng.pitch, q % s.eng.pitch)

end Sys2Proof.Machine
end

