-- ==== Sys2Proof/Machine/FieldLoop.lean ====
section
/-! DEFINITION. The Field Loop Interface and the Analog Monitor (chapter 8): scans, the debounce, what the owners take; samples
and windows. -/

namespace Sys2Proof.Machine

/-! ### Scans (R163 to R166) -/

/-- The other of the two check words (R163). -/
def otherCheck (w : Word) : Word := if w = 0xA5C3 then 0x5A3C else 0xA5C3

/-- The samples of a scan: bit b of module m's byte is point m.b (11.6); points beyond the modules keep their values. -/
def takeSamples (modules : Nat) (inputs : List Byte) (old : List Bool) : List Bool :=
  old.zipIdx.map fun (x, p) => if p < 8 * modules then (inputs.getD (p / 8) 0).getLsbD (p % 8) else x

/-- One point's debounced value and run after a sample (R166). -/
def debouncePoint (sample deb : Bool) (run : Nat) : Bool × Nat :=
  if sample = deb then (deb, 0) else if run + 1 < 3 then (deb, run + 1) else (sample, 0)

/-- The debounced values and runs after a good scan (R166), of all 192 points: one of a module at or above n keeps the last sample
that was taken of it. DESIGN CHOICE (notes/assumptions/34.md). -/
def Loop.debounce (lp : Loop) : Loop :=
  let ds := (lp.samples.zip (lp.debounced.zip lp.runs)).map fun (x, d, r) => debouncePoint x d r
  { lp with debounced := ds.map (·.1), runs := ds.map (·.2) }

/-- A point has become active between two states of the part (R166). -/
def State.becameActive (before s : State) (p : Nat) : Bool := !before.input p && s.input p

/-- The Shutter Controller takes the limit changes of shutter `i` (R167). -/
def limitsOf (before : State) (s : State) (i : Nat) : State :=
  if before.openLimit i != s.openLimit i || before.closedLimit i != s.closedLimit i then
    (limitChange i (before.openLimit i) (before.closedLimit i) s) |> arbiter
  else s

/-- The Shutter Controller takes every limit change, in shutter order, and the drive takes the departures (R93). -/
def takeLimits (before s : State) : State :=
  takeDepartures s ((List.range s.shutters.table.length).foldl (limitsOf before) s)

/-- The drive takes the landing trips that have become active (R60). -/
def takeTrips (before s : State) : State :=
  (s.tripPoints.filter (before.becameActive s)).foldl (fun t _ => driveTrip t) s

/-- The configured call points whose push has been pressed (R103). -/
def State.pressed (before s : State) : List Nat :=
  (List.range s.eng.callCount).filter fun p => before.becameActive s (s.eng.callPoints.getD p ⟨0, 0, 0⟩).input

/-- The floor lines whose answer push has been pressed (R115). -/
def State.answered (before s : State) : List Nat :=
  (List.range s.eng.floorCount).filter fun f => before.becameActive s (s.eng.lines.getD f ⟨0, 0, 0⟩).answer

/-- The owners take the debounced changes (R167): the kinds of input one after the other, the presses in the order of the call
points and the answers in that of the floors. DESIGN CHOICE (notes/assumptions/8.md). -/
def takeInputs (before s : State) : State :=
  let t := (takeLimits before s) |> takeTrips before
  let u := (before.pressed s).foldl (fun v p => callPress p v) t
  (before.answered s).foldl (fun v f => callAnswer f v) u

/-- A good scan while the loop is FAULTED returns it to GOOD (R165): the debounced inputs are loaded directly, the LOOP condition
ends, and the shutters are resolved (R92). -/
def loopReturns (s : State) : State :=
  (s.modLoop fun lp => { lp with good := true, debounced := lp.samples, runs := List.replicate 192 0 })
    |> endFault .loop 0 |> shuttersLoopReturn

/-- A good scan (R163): the samples are taken and the debounce proceeds, or the loop returns; then inching may begin (R64). That the
owners take the changes before the release of the brake makes the chain MOVING: DESIGN CHOICE (notes/assumptions/8.md). -/
def goodScan (sc : Scan) (inputs : List Byte) (s : State) : State :=
  let t := s.modLoop fun lp => { lp with samples := takeSamples sc.modules inputs lp.samples, badRun := 0 }
  (if s.loop.good then takeInputs s (t.modLoop Loop.debounce) else loopReturns t) |> inchDelivered

/-- The loop becomes FAULTED and its owners act (R164): the drive (R62, R47) and the shutters (R91). R164 and R91 give no order: the
drive brakes first, so that a chain already quiet for 500 ms in INCH or LEVEL is deemed still by that brake, and pending releases are
carried out and the shutters in WAIT_STILL go on, before every shutter becomes UNKNOWN: DESIGN CHOICE (notes/assumptions/8.md). -/
def loopFaults (s : State) : State :=
  let t := (s.modLoop fun lp => { lp with good := false, runs := List.replicate 192 0 }) |> driveLoopFault
  takeDepartures t (shuttersLoopFault t)

/-- A bad scan (R163, R164). -/
def badScan (s : State) : State :=
  let t := s.modLoop fun lp => { lp with badRun := min 3 (lp.badRun + 1), badScans := min 65535 (lp.badScans + 1) }
  if s.loop.badRun = 2 then
    let u := raiseFault .loop 0 t
    if s.loop.good then loopFaults u else u
  else t

/-- A scan begins (R163): the output image is taken as it stands, and inching notes the scan (R64). -/
def beginScan (s : State) : State :=
  (s.modLoop fun lp =>
    { lp with scan := some ⟨lp.out.take (8 * s.eng.modules), lp.nextCheck, s.eng.modules⟩, scanLeft := 10 })
    |> State.modDrive fun d => { d with inch := d.inch.map fun i => { i with scanBegun := true } }

/-- A scan ends (R163): next_check changes, scan_count is incremented, and the returned word decides. -/
def finishScan (sc : Scan) (returned : Word) (inputs : List Byte) (s : State) : State :=
  let t := s.modLoop fun lp =>
    { lp with scan := none, nextCheck := otherCheck lp.nextCheck, scanCount := (lp.scanCount + 1) % 65536 }
  if returned = sc.word then goodScan sc inputs t else badScan t

/-! ### The analog monitor (R170 to R173) -/

/-- A sample saturates at both ends of 0 to 1023 (R170). -/
def saturate (v : Int) : Nat := min 1023 v.toNat

/-- A channel's configuration (R170). -/
def State.chanCfg (s : State) (c : Nat) : ChanCfg := s.eng.analog.getD c ⟨0, 0, 0, 0⟩

/-- A channel after a sample that is judged (R172). Where low exceeds high, which R194 lets pass, a sample between them is above and
below at once: both counts are incremented and HIGH is tried first. DESIGN CHOICE (notes/assumptions/31.md). -/
def Chan.judge (g : ChanCfg) (v : Nat) (c : Chan) : Chan :=
  let above := if g.high < v then min g.k (c.above + 1) else 0
  let below := if v < g.low then min g.k (c.below + 1) else 0
  let enter := fun (w : Window) => { c with window := w, above := 0, below := 0 }
  if c.window ≠ .high ∧ g.high < v ∧ g.k ≤ above then enter .high
  else if c.window ≠ .low ∧ v < g.low ∧ g.k ≤ below then enter .low
  else if c.window ≠ .inside ∧ g.low + g.h ≤ v ∧ v + g.h ≤ g.high then enter .inside
  else { c with above := above, below := below }

/-- The supply becomes low (R173): SUPPLY_LOW is raised, WARNING ends (R47) and RAISING shutters stop (R79). -/
def supplyFalls (s : State) : State :=
  (raiseFault .supplyLow 0 s) |> warningAbandon |> shuttersSupplyLow

/-- The supply stops being low (R173, R79). -/
def supplyRises (s : State) : State := (endFault .supplyLow 0 s) |> arbiter

/-- The owner of channel `c` acts on a change of its window state (R173). -/
def windowChanged (c : Nat) (old new : Window) (s : State) : State :=
  if old = new then s
  else if c = 0 then (if new = .high then driveOverload s else s)
  else if c = 5 then (if new = .low then supplyFalls s else if old = .low then supplyRises s else s)
  else if new = .high then
    match (s.shutters.slots[c - 1]?).join with
    | some g => jamShutter g.shutter s
    | none => s
  else s

/-- Channel `c` is sampled (R170, R172, R173). -/
def sampleChannel (c : Nat) (v : Nat) (s : State) : State :=
  match s.analog[c]? with
  | none => s
  | some ch =>
    let t := s.modChan c fun x => { x with reading := v }
    if ch.evaluated then
      let n := ch.judge (s.chanCfg c) v
      (t.modChan c fun _ => { n with reading := v }) |> windowChanged c ch.window n.window
    else t

/-- The six channels are sampled (R170), each judged and its change taken by its owner before the next, channel 0 first: DESIGN
CHOICE (notes/assumptions/8.md). -/
def sampleChannels (samples : List Int) (s : State) : State :=
  samples.zipIdx.foldl (fun t (v, c) => sampleChannel c (saturate v) t) s

end Sys2Proof.Machine
end

