-- ==== Sys2Proof/Machine/BellTimes.lean ====
section
/-! DEFINITION. What a bell line does at its own times (5.1, 5.2): the next stroke of a pattern, the judging of a stroke, a line's
fault and its return, the end of a pattern. -/

namespace Sys2Proof.Machine

/-- A request of line `n` is done (R99, R108): a START_WARNING is reported to the drive, a CALL leaves its round. -/
def reqDone (n : Nat) (s : State) (r : SoundReq) : State :=
  match r.cls, r.callId with
  | .startWarning, _ => warningDone n s
  | .call, some id => callDone id n s
  | _, _ => s

/-- What line `n` is doing, if there is such a line (R97). -/
def State.activity? (s : State) (n : Nat) : Option Activity := (s.line? n).map (·.activity)

/-- The position of the stroke after the present one, if the pattern has one (R100). -/
def Current.next? (c : Current) : Option (Nat × Nat) :=
  if c.stroke + 1 < c.groups.getD c.group 0 then some (c.group, c.stroke + 1)
  else if c.group + 1 < c.groups.length then some (c.group + 1, 0)
  else none

/-- The time from the start of the present stroke to that of the next (R100). -/
def Current.gap (c : Current) : Nat := if c.stroke + 1 < c.groups.getD c.group 0 then 300 else 1000

/-- The next stroke of line `n`'s pattern starts (R100). -/
def nextStroke (n : Nat) (s : State) : State :=
  match s.activity? n with
  | some (.pattern c) =>
    match c.next? with
    | some (g, k) =>
      (s.modLine n fun l => { l with activity := .pattern { c with group := g, stroke := k, sinceStroke := 0 } })
        |> strokeOn n
    | none => s
  | _ => s

/-- Line `n` becomes FAULTED (R99): BELL_LINE is raised, what it sounded and what waited on it is done, in queue order. -/
def faultLine (n : Nat) (s : State) : State :=
  match s.line? n with
  | none => s
  | some l =>
    let t := (s.modLine n fun k => { k with faulted := true, activity := .idle, queue := [], drive := false, strokeLeft := 0 })
      |> raiseFault .bellLine n
    (l.current?.toList ++ l.queue).foldl (reqDone n) t

/-- A FAULTED line returns to NORMAL (R99): the fire ring begins on it at once where it applies. -/
def healLine (n : Nat) (s : State) : State :=
  if (s.line? n).any (·.faulted) then
    (s.modLine n fun k => { k with faulted := false, faultyRun := 0, activity := .idle, queue := [] }) |> serveLine n
  else s

/-- The tail of line `n` ends: the line is idle and its arbiter looks (R110). -/
def endTail (n : Nat) (s : State) : State :=
  match s.activity? n with
  | some .tail => (s.modLine n fun l => { l with activity := .idle }) |> serveLine n
  | _ => s

/-- A stroke of line `n` ends and is judged (R98): with the loop FAULTED it is not; a second faulty stroke faults the line. -/
def judgeStroke (n : Nat) (s : State) : State :=
  match s.line? n with
  | none => s
  | some l =>
    let t := strokeOff n s
    if !s.loop.good then endTail n t
    else if s.senseActive n then (t.modLine n fun k => { k with faultyRun := 0 }) |> endTail n
    else
      let u := t.modLine n fun k => { k with faultyRun := min 2 (k.faultyRun + 1) }
      if 2 ≤ l.faultyRun + 1 then faultLine n u else endTail n u

/-- The stroke that an apply left on an old line ends, unjudged, and its drive point goes off (R121), whatever the new engineering
part uses that point for: DESIGN CHOICE (notes/assumptions/32.md). -/
def endOldTail (n : Nat) (s : State) : State :=
  match s.bells.oldTails.find? fun t => t.line == n with
  | none => s
  | some t =>
    (s.modBells fun b => { b with oldTails := b.oldTails.erase t }) |> writePoint t.point false

/-- The pattern of line `n` is complete (R109): its effects by class, then the line is idle and the arbiter looks. -/
def completePattern (n : Nat) (c : Current) (s : State) : State :=
  let t := s.modLine n fun l =>
    { l with activity := .idle, lastCall := if n ≠ lineCH && c.req.cls == .call then c.req.callId else l.lastCall }
  serveLine n (reqDone n t c.req)

end Sys2Proof.Machine
end

