-- ==== Sys2Proof/Machine/Image.lean ====
section
/-! DEFINITION. The configuration image (chapter 10, section 11.7): CRC-16, the bytes of the engineering and the operating part,
the judging of a reading (R192) and the consistency checks (R194). -/

namespace Sys2Proof

open Machine

/-! ### CRC-16 (R179) -/

/-- One bit of the CRC register: x^16+x^12+x^5+1, most significant bit first (R179). -/
def crcShift (c : Nat) : Nat := if c < 32768 then c * 2 else (c * 2 - 65536) ^^^ 0x1021

/-- One byte enters the CRC register. -/
def crcByte (c : Nat) (b : Byte) : Nat :=
  let x := c ^^^ (b.toNat * 256)
  crcShift (crcShift (crcShift (crcShift (crcShift (crcShift (crcShift (crcShift x)))))))

/-- CRC-16 with initial value 0xFFFF and no final inversion (R179). -/
def crc16 (bs : List Byte) : Nat := bs.foldl crcByte 0xFFFF

/-- The two CRC bytes of a sequence, the more significant first. -/
def crcBytes (bs : List Byte) : List Byte := be 2 (crc16 bs)

/-! ### Reading fields in order -/

/-- A field of `k` bytes and what follows it. -/
def rd (k : Nat) (bs : List Byte) : Nat × List Byte := (ofBe (bs.take k), bs.drop k)

/-- `n` fields of one kind and what follows them. -/
def rdList {α : Type} (f : List Byte → α × List Byte) : Nat → List Byte → List α × List Byte
  | 0, bs => ([], bs)
  | n + 1, bs =>
    let (x, r) := f bs
    let (xs, q) := rdList f n r
    (x :: xs, q)

/-- A shutter record (section 4). -/
def rdShutter (bs : List Byte) : ShutterCfg × List Byte :=
  let (floor, bs) := rd 1 bs
  let (kind, bs) := rd 1 bs
  let (side, bs) := rd 1 bs
  let (zoneMask, bs) := rd 2 bs
  let (tDrop, bs) := rd 1 bs
  let (tTravel, bs) := rd 1 bs
  let (openPt, bs) := rd 1 bs
  let (closedPt, bs) := rd 1 bs
  let (holdPt, bs) := rd 1 bs
  let (upPt, bs) := rd 1 bs
  let (downPt, bs) := rd 1 bs
  (⟨floor, kind, side, zoneMask, tDrop, tTravel, openPt, closedPt, holdPt, upPt, downPt⟩, bs)

/-- A call point of section 5. -/
def rdCallPoint (bs : List Byte) : CallPointCfg × List Byte :=
  let (input, bs) := rd 1 bs
  let (floor, bs) := rd 1 bs
  let (code, bs) := rd 1 bs
  (⟨input, floor, code⟩, bs)

/-- A line of section 5. -/
def rdLine (bs : List Byte) : LineCfg × List Byte :=
  let (drive, bs) := rd 1 bs
  let (sense, bs) := rd 1 bs
  let (answer, bs) := rd 1 bs
  (⟨drive, sense, answer⟩, bs)

/-- A link of section 7. -/
def rdLink (bs : List Byte) : LinkCfg × List Byte :=
  let (supervision, bs) := rd 1 bs
  let (lead, bs) := rd 1 bs
  let (tail, bs) := rd 1 bs
  (⟨supervision, lead, tail⟩, bs)

/-- A channel of section 8. -/
def rdChan (bs : List Byte) : ChanCfg × List Byte :=
  let (low, bs) := rd 2 bs
  let (high, bs) := rd 2 bs
  let (k, bs) := rd 1 bs
  let (h, bs) := rd 1 bs
  (⟨low, high, k, h⟩, bs)

/-- A signed byte in two's complement (11.2). -/
def signedByte (n : Nat) : Int := if n < 128 then (n : Int) else (n : Int) - 256

/-- The engineering part that 799 bytes spell (11.7). -/
def Eng.ofBytes (bs : List Byte) : Eng :=
  let (floorCount, bs) := rd 1 bs
  let (zoneFloors, bs) := rdList (rd 1) 16 bs
  let (lamps, bs) := rdList (rd 1) 16 bs
  let (speakers, bs) := rdList (rd 1) 8 bs
  let (cars, bs) := rd 1 bs
  let (pitch, bs) := rd 2 bs
  let (phase, bs) := rd 2 bs
  let (slip, bs) := rd 2 bs
  let (landings, bs) := rdList (rd 4) 16 bs
  let (vRun, bs) := rd 2 bs
  let (vCreep, bs) := rd 2 bs
  let (vFull, bs) := rd 2 bs
  let (vInch, bs) := rd 2 bs
  let (accel, bs) := rd 2 bs
  let (levelTol, bs) := rd 2 bs
  let (fireDeadline, bs) := rd 1 bs
  let (trips, bs) := rdList (rd 1) 16 bs
  let (reversePt, bs) := rd 1 bs
  let (slotCount, bs) := rd 1 bs
  let (shutterCount, bs) := rd 1 bs
  let (shutters, bs) := rdList rdShutter 32 bs
  let (tRepeat, bs) := rd 2 bs
  let (nRepeat, bs) := rd 1 bs
  let (callCount, bs) := rd 1 bs
  let (callPoints, bs) := rdList rdCallPoint 64 bs
  let (lines, bs) := rdList rdLine 9 bs
  let (modules, bs) := rd 1 bs
  let (linkF, bs) := rdLink bs
  let (linkO, bs) := rdLink bs
  let (linkE, bs) := rdLink bs
  let (analog, bs) := rdList rdChan 6 bs
  let (trim, bs) := rd 1 bs
  let (epoch, _) := rd 1 bs
  { floorCount, zoneFloors, lamps, speakers, cars, pitch, phase, slip, landings, vRun, vCreep, vFull, vInch, accel,
    levelTol, fireDeadline, trips, reversePt, slotCount, shutterCount, shutters, tRepeat, nRepeat, callCount, callPoints,
    lines, modules, linkF, linkO, linkE, analog, trim := signedByte trim, epoch }

/-! ### Writing fields in order -/

/-- The bytes of a shutter record. -/
def ShutterCfg.bytes (c : ShutterCfg) : List Byte :=
  be 1 c.floor ++ be 1 c.kind ++ be 1 c.side ++ be 2 c.zoneMask ++ be 1 c.tDrop ++ be 1 c.tTravel ++ be 1 c.openPt
    ++ be 1 c.closedPt ++ be 1 c.holdPt ++ be 1 c.upPt ++ be 1 c.downPt

/-- The bytes of a call point. -/
def CallPointCfg.bytes (c : CallPointCfg) : List Byte := be 1 c.input ++ be 1 c.floor ++ be 1 c.code

/-- The bytes of a line. -/
def LineCfg.bytes (c : LineCfg) : List Byte := be 1 c.drive ++ be 1 c.sense ++ be 1 c.answer

/-- The bytes of a link. -/
def LinkCfg.bytes (c : LinkCfg) : List Byte := be 1 c.supervision ++ be 1 c.lead ++ be 1 c.tail

/-- The bytes of a channel. -/
def ChanCfg.bytes (c : ChanCfg) : List Byte := be 2 c.low ++ be 2 c.high ++ be 1 c.k ++ be 1 c.h

/-- The nine sections of an engineering part, in order (11.7). -/
def Eng.sections (e : Eng) : List (List Byte) :=
  [ be 1 e.floorCount ++ e.zoneFloors.flatMap (be 1) ++ e.lamps.flatMap (be 1) ++ e.speakers.flatMap (be 1),
    be 1 e.cars ++ be 2 e.pitch ++ be 2 e.phase ++ be 2 e.slip ++ e.landings.flatMap (be 4),
    be 2 e.vRun ++ be 2 e.vCreep ++ be 2 e.vFull ++ be 2 e.vInch ++ be 2 e.accel ++ be 2 e.levelTol ++ be 1 e.fireDeadline
      ++ e.trips.flatMap (be 1) ++ be 1 e.reversePt,
    be 1 e.slotCount ++ be 1 e.shutterCount ++ e.shutters.flatMap ShutterCfg.bytes,
    be 2 e.tRepeat ++ be 1 e.nRepeat ++ be 1 e.callCount ++ e.callPoints.flatMap CallPointCfg.bytes
      ++ e.lines.flatMap LineCfg.bytes,
    be 1 e.modules,
    e.linkF.bytes ++ e.linkO.bytes ++ e.linkE.bytes,
    e.analog.flatMap ChanCfg.bytes,
    signedField 1 e.trim ++ be 1 e.epoch ]

/-- The 799 bytes of an engineering part (11.7). -/
def Eng.bytes (e : Eng) : List Byte := e.sections.flatten

/-! ### The operating part as the image holds it -/

/-- A code of section 19: group count, four stroke counts, line mask. -/
structure RawCode where
  count : Nat
  strokes : List Nat
  mask : Nat
deriving DecidableEq, Repr

/-- A script slot of section 20: phrase count (0 is empty), mask, sixteen phrases. -/
structure RawScript where
  count : Nat
  mask : Nat
  phrases : List Nat
deriving DecidableEq, Repr

/-- An entry of section 17. -/
structure RawException where
  day : Nat
  closing : Nat
deriving DecidableEq, Repr

/-- The operating part field by field (11.7), before it is judged. -/
structure RawOp where
  schedule : List Nat
  exceptionCount : Nat
  exceptions : List RawException
  w1 : Nat
  w2 : Nat
  stagger : Nat
  order : List Nat
  codes : List RawCode
  scripts : List RawScript
deriving DecidableEq, Repr

/-- A list filled up to a length; an unused entry is zero (11.7). -/
def pad {α : Type} (n : Nat) (z : α) (xs : List α) : List α := (xs ++ List.replicate n z).take n

/-- A closing as a number (11.2). -/
def rawClosing (c : Option Nat) : Nat := c.getD closingNone

/-- A number as a closing (11.2). -/
def closingOfRaw (n : Nat) : Option Nat := if n = closingNone then none else some n

/-- The fields of an operating part. -/
def Op.raw (o : Op) : RawOp where
  schedule := pad 7 0 (o.schedule.map rawClosing)
  exceptionCount := o.exceptions.length
  exceptions := pad 16 ⟨0, 0⟩ (o.exceptions.map fun x => ⟨x.day, rawClosing x.closing⟩)
  w1 := o.w1
  w2 := o.w2
  stagger := o.stagger
  order := pad 8 0 o.order
  codes := pad 31 ⟨0, [0, 0, 0, 0], 0⟩ (o.codes.map fun c => ⟨c.groups.length, pad 4 0 c.groups, c.mask⟩)
  scripts := pad 8 ⟨0, 0, List.replicate 16 0⟩ (o.scripts.map fun c =>
    match c with
    | none => ⟨0, 0, List.replicate 16 0⟩
    | some c => ⟨c.phrases.length, c.mask, pad 16 0 c.phrases⟩)

/-- The operating part that fields describe, with a closing order of `floors` places. -/
def RawOp.op (floors : Nat) (r : RawOp) : Op where
  schedule := r.schedule.map closingOfRaw
  exceptions := (r.exceptions.take r.exceptionCount).map fun x => ⟨x.day, closingOfRaw x.closing⟩
  w1 := r.w1
  w2 := r.w2
  stagger := r.stagger
  order := r.order.take floors
  codes := r.codes.map fun c => ⟨c.strokes.take c.count, c.mask⟩
  scripts := r.scripts.map fun c => if c.count = 0 then none else some ⟨c.phrases.take c.count, c.mask⟩

/-- An entry of section 17 read. -/
def rdException (bs : List Byte) : RawException × List Byte :=
  let (day, bs) := rd 4 bs
  let (closing, bs) := rd 4 bs
  (⟨day, closing⟩, bs)

/-- A code of section 19 read. -/
def rdCode (bs : List Byte) : RawCode × List Byte :=
  let (count, bs) := rd 1 bs
  let (strokes, bs) := rdList (rd 1) 4 bs
  let (mask, bs) := rd 2 bs
  (⟨count, strokes, mask⟩, bs)

/-- A slot of section 20 read. -/
def rdScript (bs : List Byte) : RawScript × List Byte :=
  let (count, bs) := rd 1 bs
  let (mask, bs) := rd 1 bs
  let (phrases, bs) := rdList (rd 2) 16 bs
  (⟨count, mask, phrases⟩, bs)

/-- The operating part that 658 bytes spell (11.7). -/
def RawOp.ofBytes (bs : List Byte) : RawOp :=
  let (schedule, bs) := rdList (rd 4) 7 bs
  let (exceptionCount, bs) := rd 1 bs
  let (exceptions, bs) := rdList rdException 16 bs
  let (w1, bs) := rd 1 bs
  let (w2, bs) := rd 1 bs
  let (stagger, bs) := rd 2 bs
  let (order, bs) := rdList (rd 1) 8 bs
  let (codes, bs) := rdList rdCode 31 bs
  let (scripts, _) := rdList rdScript 8 bs
  { schedule, exceptionCount, exceptions, w1, w2, stagger, order, codes, scripts }

/-- The bytes of an exception entry. -/
def RawException.bytes (x : RawException) : List Byte := be 4 x.day ++ be 4 x.closing

/-- The bytes of a code. -/
def RawCode.bytes (c : RawCode) : List Byte := be 1 c.count ++ c.strokes.flatMap (be 1) ++ be 2 c.mask

/-- The bytes of a script slot. -/
def RawScript.bytes (c : RawScript) : List Byte := be 1 c.count ++ be 1 c.mask ++ c.phrases.flatMap (be 2)

/-- The 658 bytes of an operating part (11.7). -/
def RawOp.bytes (r : RawOp) : List Byte :=
  r.schedule.flatMap (be 4) ++ be 1 r.exceptionCount ++ r.exceptions.flatMap RawException.bytes ++ be 1 r.w1 ++ be 1 r.w2
    ++ be 2 r.stagger ++ r.order.flatMap (be 1) ++ r.codes.flatMap RawCode.bytes ++ r.scripts.flatMap RawScript.bytes

/-! ### The whole image -/

/-- The lengths of the nine engineering sections (11.7). -/
def sectionLengths : List Nat := [41, 71, 30, 386, 223, 1, 9, 36, 2]

/-- The length of the engineering part and of the operating part in format 1 (11.7). -/
def engLength : Nat := 799

/-- The length of the operating part in format 1 (11.7). -/
def opLength : Nat := 658

/-- The length of an image: header, both parts and the CRC (11.7). -/
def imageLength : Nat := 1467

/-- An image (10.1): header, engineering part, operating part, and the CRC over every byte before it. -/
def imageBytes (e : Eng) (o : Op) : List Byte :=
  let body := be 2 0x5A17 ++ be 2 1 ++ be 2 engLength ++ be 2 opLength ++ e.bytes ++ o.raw.bytes
  body ++ crcBytes body

/-! ### The consistency checks (R194) -/

/-- One check: a section, a field of it, and whether the field passes. -/
structure Check where
  sect : Nat
  field : Nat
  ok : Bool
deriving DecidableEq, Repr

/-- A value lies in a range. -/
def within (lo hi n : Nat) : Bool := lo ≤ n && n ≤ hi

/-- Checks over the members of a list from a first field number. -/
def checkEach {α : Type} (sect first : Nat) (xs : List α) (p : α → Bool) : List Check :=
  xs.zipIdx.map fun (x, i) => ⟨sect, first + i, p x⟩

/-- Checks 1 to 3 of R194: counts, geometry, floors. Of two equal landing points the later one fails: DESIGN CHOICE
(notes/assumptions/10.md). -/
def checkGeometry (e : Eng) : List Check :=
  let len := e.cars * e.pitch
  let points := e.landings.take (2 * e.floorCount)
  [⟨1, 0, within 2 8 e.floorCount⟩, ⟨2, 0, within 4 40 e.cars⟩, ⟨2, 1, within 64 4096 e.pitch⟩,
   ⟨2, 2, e.phase < e.pitch⟩, ⟨2, 3, within 1 (e.pitch / 4) e.slip⟩]
    ++ (points.zipIdx.map fun (x, i) =>
      ⟨2, 4 + i, x < len && x % e.pitch == e.phase && !(points.take i).contains x⟩)
    ++ checkEach 1 1 e.zoneFloors (· < e.floorCount)
    ++ checkEach 4 2 (e.shutters.take e.shutterCount) (·.floor < e.floorCount)
    ++ checkEach 5 3 (e.callPoints.take e.callCount) (·.floor < e.floorCount)

/-- A field that names points: its section, its field number, its input points and its output points. -/
structure PointField where
  sect : Nat
  field : Nat
  inputs : List Nat
  outputs : List Nat
deriving DecidableEq, Repr

/-- The fields in use that name points, in section order (R167, 11.7). -/
def Eng.pointFields (e : Eng) : List PointField :=
  ((e.lamps.take (2 * e.floorCount)).zipIdx.map fun (p, i) => ⟨1, 17 + i, [], [p]⟩)
    ++ ((e.speakers.take e.floorCount).zipIdx.map fun (p, i) => ⟨1, 33 + i, [], [p]⟩)
    ++ ((e.trips.take (2 * e.floorCount)).zipIdx.map fun (p, i) => ⟨3, 7 + i, [p], []⟩)
    ++ [⟨3, 23, [], [e.reversePt]⟩]
    ++ ((e.shutters.take e.shutterCount).zipIdx.map fun (c, i) =>
      ⟨4, 2 + i, [c.openPt, c.closedPt], [c.holdPt, c.upPt, c.downPt]⟩)
    ++ ((e.callPoints.take e.callCount).zipIdx.map fun (c, i) => ⟨5, 3 + i, [c.input], []⟩)
    ++ ((e.lines.take e.floorCount).zipIdx.map fun (c, i) => ⟨5, 67 + i, [c.sense, c.answer], [c.drive]⟩)
    ++ ((e.lines.drop 8).take 1).map fun c => ⟨5, 75, [c.sense], [c.drive]⟩

/-- The output points in use (R167). -/
def Eng.outputs (e : Eng) : List Nat := e.pointFields.flatMap (·.outputs)

/-- The checks of the points (R194, check 4): every module below n, and no output point named before, so that of two fields that name
one output point the later one fails: DESIGN CHOICE (notes/assumptions/10.md). -/
def checkPoints (n : Nat) : List Nat → List PointField → List Check
  | _, [] => []
  | seen, f :: fs =>
    ⟨f.sect, f.field,
      (f.inputs ++ f.outputs).all (· < 8 * n) && f.outputs.all (fun p => !seen.contains p) && decide f.outputs.Nodup⟩
      :: checkPoints n (seen ++ f.outputs) fs

/-- Check 4 of R194, in section order: the points named in sections 1 to 5, then the module count of section 6. -/
def checkLoop (e : Eng) : List Check := checkPoints e.modules [] e.pointFields ++ [⟨6, 0, within 1 24 e.modules⟩]

/-- Check 5 of R194: the shutters. The side of a PATERNOSTER shutter is present where it is UP or DOWN; a byte of 2 to 254, which is
neither a side nor absent, fails here: DESIGN CHOICE (notes/assumptions/10.md). -/
def checkShutters (e : Eng) : List Check :=
  [⟨4, 0, within 1 4 e.slotCount⟩, ⟨4, 1, e.shutterCount ≤ 32⟩]
    ++ checkEach 4 2 (e.shutters.take e.shutterCount) fun c =>
      c.kind < 4 && (if c.isPaternoster then c.side < 2 else c.side == 255) && within 1 30 c.tDrop && within 5 120 c.tTravel

/-- A link's times are in range (R194, check 6). -/
def LinkCfg.ok (c : LinkCfg) : Bool := c.supervision ≤ 120 && c.lead ≤ 31 && c.tail ≤ 31

/-- A channel's window is in range (R194, check 6). -/
def ChanCfg.ok (c : ChanCfg) : Bool := c.low ≤ 1023 && c.high ≤ 1023 && within 1 15 c.k && c.h ≤ 63

/-- Check 6 of R194: drive, bells, links, analog, clock. -/
def checkParameters (e : Eng) : List Check :=
  [⟨3, 0, within 1 4000 e.vRun⟩, ⟨3, 1, within 1 e.vRun e.vCreep⟩, ⟨3, 2, within e.vRun 8000 e.vFull⟩,
   ⟨3, 3, within 1 e.vRun e.vInch⟩, ⟨3, 4, within 1 2000 e.accel⟩, ⟨3, 5, within 1 (e.pitch / 8) e.levelTol⟩,
   ⟨3, 6, within 5 60 e.fireDeadline⟩, ⟨5, 0, within 30 600 e.tRepeat⟩, ⟨5, 1, within 1 10 e.nRepeat⟩,
   ⟨5, 2, e.callCount ≤ 64⟩]
    ++ checkEach 5 3 (e.callPoints.take e.callCount) (fun c => within 4 31 c.code)
    ++ checkEach 7 0 [e.linkF, e.linkO, e.linkE] LinkCfg.ok
    ++ checkEach 8 0 e.analog ChanCfg.ok
    ++ [⟨9, 0, -64 ≤ e.trim && e.trim ≤ 63⟩, ⟨9, 1, e.epoch ≤ 6⟩]

/-- A closing is a second of day or NONE (R194, check 7). -/
def closingOk (n : Nat) : Bool := n ≤ 86399 || n == closingNone

/-- A code passes (R194, check 7); codes 1 to 3, at places 0 to 2, have no mask. -/
def RawCode.ok (place : Nat) (c : RawCode) : Bool :=
  within 1 4 c.count && (c.strokes.take c.count).all (within 1 6) && (if place < 3 then c.mask == 0 else c.mask < 512)

/-- A script slot passes (R194, check 7): empty, or 1 to 16 phrases of 0 to 1023 with a mask that is not empty. -/
def RawScript.ok (c : RawScript) : Bool :=
  c.count == 0 || (c.count ≤ 16 && (c.phrases.take c.count).all (· ≤ 1023) && within 1 255 c.mask)

/-- Check 7 of R194: the operating part. -/
def checkOp (r : RawOp) : List Check :=
  let xs := r.exceptions.take r.exceptionCount
  checkEach 16 0 r.schedule closingOk
    ++ [⟨17, 0, r.exceptionCount ≤ 16⟩]
    ++ (xs.zipIdx.map fun (x, i) =>
      ⟨17, 1 + i, closingOk x.closing && (i == 0 || ((xs[i - 1]?).any fun y => y.day < x.day))⟩)
    ++ [⟨18, 0, r.w1 ≤ 60⟩, ⟨18, 1, r.w2 ≤ r.w1⟩, ⟨18, 2, r.stagger ≤ 600⟩]
    ++ (r.codes.zipIdx.map fun (c, i) => ⟨19, i, c.ok i⟩)
    ++ checkEach 20 0 r.scripts RawScript.ok

/-- The consistency checks in their order (R194). A field number is a field's place in the contents of its section (11.7), each
entry or record of a list being one field: DESIGN CHOICE (notes/assumptions/10.md). -/
def checks (e : Eng) (r : RawOp) : List Check :=
  checkGeometry e ++ checkLoop e ++ checkShutters e ++ checkParameters e ++ checkOp r

/-- The first field that fails, by section and field (R194). -/
def firstFailure (e : Eng) (r : RawOp) : Option (Nat × Nat) :=
  ((checks e r).find? fun c => !c.ok).map fun c => (c.sect, c.field)

/-! ### Judging a reading (R192) -/

/-- What a reading of the memory comes to. -/
structure Judged where
  result : LoadResult
  failure : Option (Nat × Nat)
  parts : Option (Eng × Op)
  read : Option (List Byte)
deriving DecidableEq, Repr

/-- The first 1,467 bytes of the memory; a memory that does not answer reads as all ones (R192). -/
def memoryImage (memory : List Byte) : List Byte := pad imageLength 0xFF memory

/-- A reading is judged in the order of R192. The engineering bytes are kept where the marker, the format and the lengths pass
(R195). -/
def judge (memory : List Byte) : Judged :=
  let img := memoryImage memory
  let word := fun i => ofBe ((img.drop i).take 2)
  let engBytes := (img.drop 8).take engLength
  let e := Eng.ofBytes engBytes
  let r := RawOp.ofBytes ((img.drop (8 + engLength)).take opLength)
  if word 0 ≠ 0x5A17 then ⟨.noMarker, none, none, none⟩
  else if word 2 ≠ 1 then ⟨.badFormat, none, none, none⟩
  else if word 4 ≠ engLength ∨ word 6 ≠ opLength then ⟨.badLength, none, none, none⟩
  else if word 1465 ≠ crc16 (img.take 1465) then ⟨.badCrc, none, none, some engBytes⟩
  else match firstFailure e r with
    | some f => ⟨.checkFailed, some f, none, some engBytes⟩
    | none => ⟨.good, none, some (e, r.op e.floorCount), some engBytes⟩

end Sys2Proof
end

