-- ==== Sys2Proof/Machine/Apply.lean ====
section
/-! DEFINITION. Start-up, the entry to SUPERVISING and to UNCONFIGURED (10.2), the apply of a new engineering part (R198 and the
last rules of chapters 1 to 9), the edit session and the save. -/

namespace Sys2Proof.Machine

/-! ### Start-up (R192) -/

/-- Start-up from the moment of reset, from the part `before` it, with the clock that the reset leaves (R124): STARTUP is set
(R190), and a start-up that finds the clock-set flag clear sets CLOCK and raises CLOCK_NOT_SET (R124). The queue of commands
stays, and so does the model's count of timed-out readings (notes/assumptions/29.md). CONFIG is not set, since each start-up's entry
to LOADING is taken as the first entry that R191 excepts, also out of SUPERVISING and UNCONFIGURED: DESIGN CHOICE
(notes/assumptions/42.md). -/
def startUp (p : Pins) (c : Clock) (before : State) : State :=
  let s := setEvent .startup { State.startUp p c before.store.timeouts with pending := before.pending }
  if c.isSet then s else (setEvent .clock s) |> raiseFault .clockNotSet 0

/-- The clock that power-on reset leaves (R124). -/
def Clock.powerOn : Clock := ⟨0, false, 0, 32768, 0⟩

/-! ### Building the tables -/

/-- The closing order is checked against the floors (R130, R194): one that is not a permutation is replaced from the top down. -/
def fitOrder (e : Eng) (o : Op) : Op :=
  if isOrder e.floorCount o.order then o else { o with order := topDown e.floorCount }

/-- The floor and zone table is rebuilt (R22): floors CLOSED, or FIRE with cause GENERAL, zones CLEAR; FLOOR_MODE and ZONE are
set, and the lamps are written (R14). -/
def buildFloors (s : State) : State :=
  let fl : Floor :=
    if s.generalAlarm then ⟨.fire, some .general, s.clock.count, 0, true⟩ else ⟨.closed, none, s.clock.count, 0, true⟩
  (s.modFloors fun t =>
    { t with table := List.replicate s.eng.floorCount fl
             zones := (List.range 16).map fun z => ⟨false, s.eng.zoneFloors.getD z 0, s.clock.count⟩ })
    |> placeFloors |> setEvent .floorMode |> setEvent .zone |> reboard

/-- The lines of an installation, floor lines first and CH last, as they are built (R120). -/
def freshLines (floors : Nat) : List Line :=
  (List.range floors ++ [lineCH]).map fun n => ⟨n, false, .idle, false, 0, 0, [], none⟩

/-- The bell lines are built and the call table is empty; where fire is present the ring begins (R120). -/
def buildBells (s : State) : State :=
  (s.modBells fun b => { b with lines := freshLines s.eng.floorCount, calls := [] }) |> ringBegins

/-- A shutter as a table is built (R95, R96): UNKNOWN with a given hold. -/
def Shutter.fresh (hold : Bool) (now : Nat) : Shutter := ⟨.unknown, hold, false, now, false⟩

/-- The shutter table is built with the holds that `hold` gives, every slot free and the list empty; the points of every shutter
are written, its motor OFF (R95, R96), so that an up or a down point that an old owner left on goes off (R68): DESIGN CHOICE
(notes/assumptions/34.md). A table built with every shutter UNKNOWN is no entry of a shutter to UNKNOWN and sets
neither SHUTTER nor SHUTTER_FAULT (R93): DESIGN CHOICE (notes/assumptions/30.md). -/
def buildShutters (hold : Nat → Bool) (s : State) : State :=
  let is := List.range s.eng.shutterCount
  let t := s.modShutters fun _ =>
    ⟨is.map fun i => Shutter.fresh (hold i) s.clock.count, List.replicate s.eng.slotCount none, [], []⟩
  is.foldl (fun u i => writeShutter i (Shutter.fresh (hold i) s.clock.count) u) t

/-- Every link's supervision count begins (R190); a LOST link keeps its own. -/
def restartSupervision (s : State) : State :=
  s.modLinks (Links.map fun k => if k.state = .lost then k else { k with sinceFrame := 0 })

/-- The plan record is rebuilt, and the stages whose times have come are marked SKIPPED (R143). -/
def buildPlan (s : State) : State :=
  (if s.clock.isSet then pruneExceptions s else s) |> rebuildPlan |> markPassed

/-! ### SUPERVISING and UNCONFIGURED (R193) -/

/-- The part enters SUPERVISING with an engineering and an operating part (R193): every block takes up its parameters.
The field loop begins scanning in state FAULTED without a LOOP record (R169), channel 5 is evaluated (R175), the shutters await
their first resolution (R95), and an evacuation entry is made where general alarm is active (R160). -/
def enterSupervising (e : Eng) (o : Op) (s : State) : State :=
  (s.modStore fun st => { st with state := .supervising, eng := some e, op := fitOrder e o, loaded := none })
    |> setEvent .config |> buildFloors |> buildShutters (fun _ => false) |> buildBells
    |> State.modLoop (fun lp => { lp with good := false, scan := none, scanLeft := 0 })
    |> State.modChan 5 (fun c => { c with evaluated := true })
    |> restartSupervision |> buildPlan |> keepEvac none |> look

/-- The part becomes UNCONFIGURED (R193). -/
def enterUnconfigured (j : Judged) (s : State) : State :=
  (s.modStore fun st =>
    { st with state := .unconfigured, loadResult := j.result, loadFailure := j.failure, lastRead := j.read })
    |> setEvent .config |> raiseFault .configBad 0

/-- A reading of the memory has been judged (R192, R193): a good one waits for the fire input to settle. -/
def takeReading (j : Judged) (s : State) : State :=
  match j.parts with
  | some (e, o) =>
    s.modStore fun st =>
      { st with loadResult := j.result, loadFailure := none, lastRead := j.read, loaded := some (e, o) }
  | none => enterUnconfigured j s

/-! ### The apply (R198) -/

/-- Every pattern is cut and the old lines go (R121): a stroke that is on becomes an old tail, and the drive point of every other
line is written off. -/
def dismissLines (s : State) : State :=
  s.bells.lines.foldl (fun t l =>
    if l.drive then
      t.modBells fun b => { b with oldTails := b.oldTails ++ [⟨l.num, s.drivePoint l.num, l.strokeLeft⟩] }
    else writePoint (s.drivePoint l.num) false t) s

/-- The playout on air ends without its entry's return, and the queue is emptied (R161). -/
def dismissPlayouts (s : State) : State :=
  (match s.airborne with
   | some p => (if p.phase = PlayPhase.phrase then portAbort s else s) |> leaveAir .aborted false
   | none => s).modQueue fun _ => []

/-- The points that a tail of the old configuration still holds (R121, R161). -/
def State.tailPoints (s : State) : List Nat :=
  s.bells.oldTails.map (·.point) ++ (s.announce.playout.map (·.relays)).getD []

/-- The output image at an apply (R169): points of modules at or above n are off, and so are those that serve no purpose, but for
the points that a tail holds. A point that is on and serves another purpose in the new part stays on until its new owner writes it; where that
is the reverse output, a bell line's drive or a speaker relay, whose record has it off, that is a DESIGN CHOICE
(notes/assumptions/38.md). -/
def trimOutputs (s : State) : State :=
  let used := s.eng.outputs ++ s.tailPoints
  s.modLoop fun lp =>
    { lp with out := lp.out.zipIdx.map fun (v, p) => v && p < 8 * s.eng.modules && used.contains p }

/-- The Paternoster Drive takes up the new parameters in OFF with its start-up values (R67). since_release, which R67 has 0, stays 0
until the brake is next released, and does not run on from an earlier release (R41): DESIGN CHOICE (notes/assumptions/38.md). No point
is written here, so that a point left on by an old owner which becomes the reverse output stays on, as R169 keeps it, though the
record's reverse is OFF (R42, R67): DESIGN CHOICE (notes/assumptions/38.md). -/
def applyDrive (s : State) : State :=
  setEventIf (s.drive.state != .off) .paternoster (s.modDrive fun _ => Drive.startUp)

/-- The Chain Tracker takes up the new geometry (R40). -/
def applyTracker (s : State) : State :=
  (s.modTracker fun k =>
    { k with counter := 0, travel := 0, errorCount := 0, pitchTravel := 0, lastDeviation := none, lastCorrection := none })
    |> setReferenced false

/-- The Shutter Controller builds its table from the image as it stands and resolves every shutter (R96). -/
def applyShutters (s : State) : State :=
  let t := buildShutters (fun i => s.outPoint (s.shutterCfg i).holdPt) s
  ((List.range t.shutters.table.length).foldl (fun u i => resolveShutter i u) t) |> arbiter

/-- The plan record at an apply (R143): it is rebuilt and the stages whose times have come are marked SKIPPED. A carried record that
this makes DONE is rebuilt at once for the current day (R132), and that day's passed stages are marked in their turn, so that
nothing is left for the evaluation to take. -/
def applyPlan (s : State) : State :=
  let t := (rebuildPlan s) |> markPassed
  if t.planSettles then (rebuildPlan t) |> markPassed else t

/-- CONFIG_END applies a new engineering part from SUPERVISING (R198): each block as its chapter states, without an output being
turned off but for those of R169. The bell lines are built before the shutters are resolved, so that a LIMIT_CONFLICT of the resolution
leaves its TROUBLE on the new counting-house line: DESIGN CHOICE (notes/assumptions/8.md). -/
def applyConfig (e : Eng) (s : State) : State :=
  (dismissPlayouts (dismissLines s)).modStore
      (fun st => { st with eng := some e, op := fitOrder e st.op, shadow := none })
    |> setEvent .config |> endFault .configBad 0 |> trimOutputs |> applyDrive |> applyTracker |> buildFloors |> buildBells
    |> State.modChan 5 (fun c => { c with above := 0, below := 0 })
    |> restartSupervision |> applyShutters |> applyPlan

/-- CONFIG_END applies the first engineering part from UNCONFIGURED (R198). -/
def applyFirst (e : Eng) (s : State) : State :=
  (enterSupervising e s.store.op (s.modStore fun st => { st with shadow := none })) |> endFault .configBad 0

/-! ### The edit session and the save (R195 to R199) -/

/-- The shadow that CONFIG_BEGIN makes (R195). -/
def State.newShadow (s : State) : List Byte :=
  match s.store.eng with
  | some e => e.bytes
  | none => s.store.lastRead.getD (List.replicate engLength 0)

/-- Bytes are replaced from a place in a list. -/
def splice (at_ : Nat) (new old : List Byte) : List Byte := old.take at_ ++ new ++ old.drop (at_ + new.length)

/-- The place of an engineering section in the engineering part (11.7). -/
def sectionStart (sect : Nat) : Nat := (sectionLengths.take (sect - 1)).sum

/-- The shadow is discarded (R197). -/
def dropShadow (s : State) : State :=
  if s.store.shadow.isSome then (s.modStore fun st => { st with shadow := none }) |> setEvent .config else s

/-- A save begins (R199): the snapshot is the applied image with a new CRC, and the first page is sent. -/
def beginSave (e : Eng) (s : State) : State :=
  s.modStore fun st => { st with save := some ⟨imageBytes e st.op, some 0, 10, 2000⟩ }

/-- The number of pages of 32 bytes that a snapshot takes (R199). -/
def pageCount (snapshot : List Byte) : Nat := (snapshot.length + 31) / 32

/-- A save ends well (R199). -/
def saveGood (s : State) : State :=
  (s.modStore fun st => { st with save := none, lastSave := .good, saveFailure := none }) |> setEvent .config

/-- A save fails (R199). -/
def saveFails (f : SaveFailure) (s : State) : State :=
  (s.modStore fun st => { st with save := none, lastSave := .failed, saveFailure := some f })
    |> setEvent .config |> raiseFault .configSaveFailed 0

end Sys2Proof.Machine
end

