-- ==== Sys2Proof/Machine/Reads.lean ====
section
/-! DEFINITION. The payloads of the read requests (11.4): fields in the order of 11.4 and of the records that it names, in the
encodings of 11.2. Widths that 11.4 does not give are the model's (notes/assumptions/6.md). -/

namespace Sys2Proof.Machine

/-- An owner's answer: the status and the reply payload (R180, R183). -/
structure Answer where
  status : Status
  payload : List Byte
deriving DecidableEq, Repr

/-- A byte that holds a small number. -/
def byte (n : Nat) : List Byte := be 1 n

/-- A byte that holds a number or is absent. -/
def byte? (n : Option Nat) : List Byte := optField 1 n

/-- The members of a collection that one reply carries (R200). -/
def page {α : Type} (first count : Nat) (xs : List α) : List α := (xs.drop first).take count

/-! ### Floors, zones, faults -/

/-- One floor in part 0 of READ_FLOORS (R13). -/
def Floor.payload (f : Floor) : List Byte :=
  byte f.mode.code ++ byte? (f.cause.map FireCause.code) ++ byte f.closingPosition ++ byte (named f.lit)

/-- READ_FLOORS (R13). -/
def answerFloors (s : State) (part : Nat) : Answer :=
  match part with
  | 0 => ⟨.accepted, byte s.floors.table.length ++ byte (flag s.floors.silence) ++ s.floors.table.flatMap Floor.payload⟩
  | 1 => ⟨.accepted, s.floors.table.flatMap fun f => be 4 f.modeSince⟩
  | _ => ⟨.refusedRange, []⟩

/-- The sources of the general alarm and the general alarm (R7, R13). -/
def alarmPayload (s : State) : List Byte :=
  byte (flag s.floors.gaFlag) ++ byte (flag s.floors.inputAlarm) ++ byte (flag s.generalAlarm)

/-- One zone in READ_ZONES (R13). -/
def Zone.payload (z : Zone) : List Byte := byte (named (!z.alarm)) ++ byte z.floor ++ be 4 z.since

/-- READ_ZONES (R13). -/
def answerZones (s : State) (part : Nat) : Answer :=
  if part < 2 then ⟨.accepted, alarmPayload s ++ (page (8 * part) 8 s.floors.zones).flatMap Zone.payload⟩
  else ⟨.refusedRange, alarmPayload s⟩

/-- One record in READ_FAULTS (R21). -/
def FaultRec.payload (r : FaultRec) : List Byte :=
  byte r.kind.code ++ byte r.source ++ be 4 r.firstRaised ++ be 4 r.lastRaised ++ byte r.occurrences ++ byte (named r.active)

/-- READ_FAULTS (R21, R200). -/
def answerFaults (s : State) (first : Nat) : Answer :=
  let head := byte (flag s.faults.full) ++ byte s.faults.records.length ++ byte first
  if first < 32 then ⟨.accepted, head ++ (page first 4 s.faults.records).flatMap FaultRec.payload⟩
  else ⟨.refusedRange, head⟩

/-! ### Paternoster -/

/-- The drive record, the code and the starting conditions (R66). -/
def drivePayload (s : State) : List Byte :=
  let d := s.drive
  byte d.state.code ++ be 2 d.vRef ++ byte (named (!d.released)) ++ byte (named d.enable) ++ byte (named d.reverse)
    ++ byte? (d.brakeExit.map Rest.code) ++ byte? (d.stopCause.map StopCause.code) ++ byte? (d.haltCause.map FaultKind.code)
    ++ optField 2 (d.warningLines.map setBits) ++ optField 4 d.lastrunTravel ++ byte d.overspeedCount ++ byte d.stallCount
    ++ be 2 d.sinceRelease ++ byte? (d.inch.map (·.direction.code)) ++ byte? (d.inchOrigin.map Rest.code)
    ++ optField 2 (d.inch.map (·.lease)) ++ byte? (d.inch.map fun i => flag i.started)
    ++ be 2 s.speedCode ++ byte (flagBits s.startConditions)

/-- The levelled-stop record (R66). -/
def levelPayload (s : State) : List Byte :=
  match s.drive.level with
  | some v => be 2 v.vNow ++ be 4 v.dReq ++ be 4 v.r0 ++ be 4 v.r ++ byte v.phase.code ++ optField 2 v.deadline
      ++ be 2 v.overrun
  | none => absent 19

/-- The chain record (R38). -/
def chainPayload (s : State) : List Byte :=
  let k := s.tracker
  be 4 k.counter ++ byte k.direction.code ++ byte (flag k.referenced) ++ be 4 k.travel ++ optSigned 4 k.lastDeviation
    ++ optSigned 4 k.lastCorrection ++ byte k.errorCount ++ be 2 k.measuredSpeed ++ byte (named k.still) ++ be 2 k.quietTime
    ++ be 2 k.brakeAppliedTime ++ byte (flag s.chainLevel)

/-- One landing: its point, the car at it and the distance past it (R34, R38). -/
def landingPayload (s : State) (x : Nat) : List Byte := be 4 x ++ byte (s.carAt x).1 ++ be 2 (s.carAt x).2

/-- READ_PATERNOSTER (R38, R66): parts 3 and 4 hold the landings of floors 0 to 3 and 4 to 7. -/
def answerPaternoster (s : State) (part : Nat) : Answer :=
  let landings := s.eng.landings.take (2 * s.eng.floorCount)
  match part with
  | 0 => ⟨.accepted, drivePayload s⟩
  | 1 => ⟨.accepted, levelPayload s⟩
  | 2 => ⟨.accepted, chainPayload s⟩
  | 3 => ⟨.accepted, (page 0 8 landings).flatMap (landingPayload s)⟩
  | 4 => ⟨.accepted, (page 8 8 landings).flatMap (landingPayload s)⟩
  | _ => ⟨.refusedRange, []⟩

/-! ### Shutters -/

/-- S, M, the motor slots and the waiting list, each shutter with its direction in bit 7 (R94). The time since the grant, whose width
and unit neither R94 nor 11.4 gives, is sent in four bytes in milliseconds, absent for a free slot: DESIGN CHOICE
(notes/assumptions/6.md). -/
def slotsPayload (s : State) : List Byte :=
  byte s.shutters.table.length ++ byte s.shutters.slots.length
    ++ (s.shutters.slots.flatMap fun g => byte? (g.map (·.shutter)) ++ optField 4 (g.map (·.elapsed)))
    ++ s.shutters.waitList.flatMap fun i => byte (i + if s.shutterState? i == some (.waitSlot .down) then 128 else 0)

/-- A shutter record of 19 bytes (R94). -/
def shutterPayload (s : State) (i : Nat) : List Byte :=
  match s.shutter? i with
  | none => []
  | some sh =>
    byte sh.state.code ++ byte? (sh.state.wanted?.map Travel.code) ++ byte? (sh.state.purpose?.map WaitPurpose.code)
      ++ byte (named sh.hold) ++ byte (flag sh.releasePending) ++ byte sh.state.motorCode
      ++ byte? ((s.shutters.slotOf i).map (· + 1)) ++ optField 4 sh.state.timer? ++ be 4 sh.since
      ++ byte (flag sh.inhibitedByRequest) ++ byte (flag (s.openLimit i)) ++ byte (flag (s.closedLimit i))
      ++ byte (flag (s.dropDemand i))

/-- READ_SHUTTERS (R94, R200). -/
def answerShutters (s : State) (first : Nat) : Answer :=
  if first = 255 then ⟨.accepted, slotsPayload s⟩
  else if first < 32 then
    ⟨.accepted, (page first 3 (List.range s.shutters.table.length)).flatMap (shutterPayload s)⟩
  else ⟨.refusedRange, []⟩

/-! ### Bells -/

/-- A call entry of 24 bytes (R118): 23 bytes of fields and one that the spec leaves open, a free value. -/
def callPayload (s : State) (c : Call) : List Byte :=
  be 2 c.callId ++ byte c.callPoint ++ byte c.code ++ be 4 c.raisedAt ++ byte c.presses ++ byte c.roundsDone
    ++ optField 4 c.nextDue ++ optField 2 (c.roundLines.map setBits) ++ byte c.state.code ++ byte? c.answeredFloor
    ++ optField 4 c.endedAt ++ byte (s.eng.callPoints.getD c.callPoint ⟨0, 0, 0⟩).floor ++ [Config.callEntryPad]

/-- READ_CALLS (R118, R200). -/
def answerCalls (s : State) (first : Nat) : Answer :=
  let head := byte s.eng.nRepeat ++ be 2 s.eng.tRepeat ++ byte s.bells.calls.length
  if first < 24 then ⟨.accepted, head ++ (page first 2 s.bells.calls).flatMap (callPayload s)⟩
  else ⟨.refusedRange, head⟩

/-- A sound request in a reply: class, code, call_id where it has one (R119). -/
def SoundReq.payload (r : SoundReq) : List Byte := byte r.cls.code ++ byte r.code ++ optField 2 r.callId

/-- The current request of a line, with the time since its pattern began (R119). -/
def currentPayload (a : Activity) : List Byte :=
  match a with
  | .pattern c => c.req.payload ++ be 2 c.elapsed
  | _ => absent 6

/-- A line's part of READ_BELL_LINES (R119). -/
def Line.payload (l : Line) : List Byte :=
  byte (named (!l.faulted)) ++ byte l.activity.code ++ byte (named l.drive) ++ byte l.faultyRun ++ currentPayload l.activity
    ++ byte l.queue.length ++ l.queue.flatMap SoundReq.payload ++ optField 2 l.lastCall

/-- READ_BELL_LINES (R119, R200). -/
def answerLine (s : State) (n : Nat) : Answer :=
  match s.line? n with
  | some l => ⟨.accepted, l.payload ++ byte (flag s.floors.silence)⟩
  | none => ⟨.refusedRange, absent 13 ++ byte (flag s.floors.silence)⟩

/-! ### Announcements -/

/-- A queue entry (R159). -/
def QueueEntry.payload (q : QueueEntry) : List Byte :=
  byte q.slot ++ byte q.cls.code ++ be 4 q.queuedAt ++ optField 2 q.gap

/-- The on-air or tail record (R159). -/
def playoutPayload : Option Playout → List Byte
  | some p => byte p.slot ++ byte p.cls.code ++ be 4 p.queuedAt ++ be 4 p.startedAt ++ byte (setBits p.floors)
      ++ byte p.phase.code ++ byte p.phraseIndex ++ byte p.phrasesSent ++ byte p.missing ++ byte (flag p.cancelled)
      ++ byte? (p.outcome.map PlayOutcome.code) ++ byte? (p.outcome.map fun _ => flag p.returned)
  | none => absent 18

/-- The port record (R159). -/
def Port.payload (p : Port) : List Byte :=
  byte p.state.code ++ be 2 p.missingCount ++ byte? (p.faultCause.map PortCause.code)

/-- The last-playout record (R159). -/
def lastPayload : Option LastPlayout → List Byte
  | some p => byte p.slot ++ byte p.cls.code ++ be 4 p.startedAt ++ be 4 p.endedAt ++ byte p.phrasesSent ++ byte p.missing
      ++ byte? (p.outcome.map PlayOutcome.code) ++ byte (flag p.returned)
  | none => absent 14

/-- A copy of a script slot: phrase count, mask, phrases (R159). -/
def copyPayload : Option Copy → List Byte
  | some c => byte c.phrases.length ++ byte c.mask ++ c.phrases.flatMap (be 2)
  | none => absent 2

/-- A part of READ_QUEUE (11.4): the copies of a slot above 7 have no value and are absent (R183). -/
def queuePart (s : State) (part slot : Nat) : List Byte :=
  match part with
  | 0 => (page 0 4 s.announce.queue).flatMap QueueEntry.payload
  | 1 => (page 4 4 s.announce.queue).flatMap QueueEntry.payload
  | 2 => playoutPayload s.announce.playout ++ s.announce.port.payload
  | 3 => lastPayload s.announce.last
  | 4 => copyPayload (s.copy? slot)
  | 5 => copyPayload (s.announce.pendingCopies[slot]?).join
  | _ => []

/-- READ_QUEUE (R159, R200): a slot above 7 refuses every part, whose fields are sent as they stand (R183). -/
def answerQueue (s : State) (part slot : Nat) : Answer :=
  ⟨if part ≤ 5 ∧ slot ≤ 7 then .accepted else .refusedRange, queuePart s part slot⟩

/-! ### Clock and plan -/

/-- READ_CLOCK (R126). -/
def answerClock (s : State) : Answer :=
  ⟨.accepted, be 4 s.clock.count ++ byte (flag s.clock.isSet) ++ be 4 s.today ++ be 4 (s.clock.count % 86400)
    ++ byte (s.weekday s.today) ++ signedField 1 s.trim ++ byte s.eng.epoch ++ be 2 s.clock.prescaler⟩

/-- The stage times of a WAITING record: T, WARN1, WARN2, CLOSE (R142). -/
def stagePayload (s : State) : List Byte :=
  let p := s.plan
  if p.status = .waiting then
    be 4 p.closeTime ++ be 4 (p.stageTime s.store.op.w1) ++ be 4 (p.stageTime s.store.op.w2) ++ be 4 p.closeTime
  else absent 16

/-- The plan parameters, the record, the stage times, the next floor of a RUNNING record and whether it is carried (R142). -/
def planPayload (s : State) : List Byte :=
  let p := s.plan
  let o := s.store.op
  byte o.w1 ++ byte o.w2 ++ be 2 o.stagger ++ (pad 8 0xFF (o.order.map (BitVec.ofNat 8)))
    ++ be 4 p.day ++ optField 4 p.baseClose ++ byte p.holdTotal ++ byte p.warn1.code ++ byte p.warn2.code
    ++ byte p.close.code ++ byte p.nextPosition ++ optField 2 (p.positionWait.map (· / 1000)) ++ byte p.status.code
    ++ stagePayload s ++ byte? (if p.status = .running then o.order[p.nextPosition]? else none)
    ++ byte (flag s.planCarried)

/-- READ_PLAN (R142, R200). -/
def answerPlan (s : State) (part : Nat) : Answer :=
  let entry := fun (x : PlanException) => be 4 x.day ++ closingField x.closing
  match part with
  | 0 => ⟨.accepted, s.store.op.schedule.flatMap closingField⟩
  | 1 => ⟨.accepted, (page 0 7 s.store.op.exceptions).flatMap entry⟩
  | 2 => ⟨.accepted, (page 7 7 s.store.op.exceptions).flatMap entry⟩
  | 3 => ⟨.accepted, (page 14 2 s.store.op.exceptions).flatMap entry⟩
  | 4 => ⟨.accepted, planPayload s⟩
  | _ => ⟨.refusedRange, []⟩

/-! ### Loop, monitor and links -/

/-- An analog channel of 14 bytes (R174). -/
def chanPayload (s : State) (c : Nat) : List Byte :=
  let g := s.chanCfg c
  let ch := s.analog.getD c Chan.startUp
  be 2 ch.reading ++ be 2 g.low ++ be 2 g.high ++ byte g.k ++ byte g.h ++ byte ch.window.code ++ byte ch.above
    ++ byte ch.below ++ byte (flag ch.evaluated) ++ optField 2 ch.blanking

/-- The byte of a module in an image: bit b is point m.b (11.6). -/
def moduleByte (img : List Bool) (m : Nat) : List Byte := byte (flagBits (page (8 * m) 8 img))

/-- READ_ANALOG (R174, R200). Part 2 ends with the input byte and then the output byte of module 0, those of module 1, and so on;
11.4 says no more than "inputs and outputs of each module": DESIGN CHOICE (notes/assumptions/6.md). -/
def answerAnalog (s : State) (part : Nat) : Answer :=
  match part with
  | 0 => ⟨.accepted, [0, 1, 2].flatMap (chanPayload s)⟩
  | 1 => ⟨.accepted, [3, 4, 5].flatMap (chanPayload s)⟩
  | 2 =>
    ⟨.accepted, byte (named s.loop.good) ++ byte? (s.store.eng.map (·.modules)) ++ byte s.loop.badRun ++ be 2 s.loop.scanCount
      ++ be 2 s.loop.badScans
      ++ (List.range s.eng.modules).flatMap fun m => moduleByte s.loop.debounced m ++ moduleByte s.loop.out m⟩
  | _ => ⟨.refusedRange, []⟩

/-- The whole seconds left before a link's supervision expires, where supervision runs (R189). A LOST link, which has expired already,
shows what its count leaves of the supervision time: DESIGN CHOICE (notes/assumptions/40.md). -/
def State.supervisionLeft (s : State) (l : LinkId) : Option Nat :=
  if s.supervised l then some (((s.linkCfg l).supervision * 1000 - (s.link l).sinceFrame) / 1000) else none

/-- A link of 11 bytes (R189). The strapped rate is sent as its place in R176's list of rates: DESIGN CHOICE
(notes/assumptions/5.md). -/
def linkPayload (s : State) (l : LinkId) : List Byte :=
  let k := s.link l
  let g := s.linkCfg l
  byte k.rate ++ byte k.state.code ++ byte g.supervision ++ byte? (s.supervisionLeft l) ++ byte g.lead ++ byte g.tail
    ++ byte k.errorCount ++ byte k.abandonedCount ++ be 2 k.mask.toNat ++ byte k.attention.code

/-- The payload of READ_LINK from link `l` (R189). -/
def linksPayload (s : State) (l : LinkId) : List Byte :=
  byte s.links.address ++ byte (linkCode l) ++ linkPayload s .F ++ linkPayload s .O ++ linkPayload s .E

end Sys2Proof.Machine
end

