-- ==== Sys2Proof/Machine/Requests.lean ====
section
/-! DEFINITION. The Master Link Interfaces (chapter 9) and the owners of the requests: the taking of a request with its checks
(R179, R180), authority (R181), each owner's decision, the frames and characters that carry requests. An owner is given the part
with the supervision of the link refreshed, and gives the part after the request and the answer. -/

namespace Sys2Proof.Machine

/-! ### Taking a request (R179, R180, R184) -/

/-- A valid frame refreshes the link's supervision (R184): QUIET and LOST become ACTIVE with LINK_STATE, and the return from LOST
ends LINK_LOST. -/
def refresh (l : LinkId) (s : State) : State :=
  let t := s.modLink l fun k => { k with sinceFrame := 0, state := .active }
  match (s.link l).state with
  | .active => t
  | .quiet => setEvent .linkState t
  | .lost => (setEvent .linkState t) |> endFault .linkLost (linkCode l)

/-- A request kind that every link may issue (R181). -/
def isRead (kind : Nat) : Bool := within 1 15 kind

/-- The authority of a link for a request kind (R181). -/
def authority (l : LinkId) (kind : Nat) : Bool :=
  isRead kind || (match l with
    | .F => within 16 20 kind
    | .O => within 32 44 kind || within 48 49 kind
    | .E => within 48 49 kind || within 64 75 kind)

/-- A request kind that the state of the part lets through (R180). -/
def configTakes (c : ConfigState) (kind : Nat) : Bool :=
  match c with
  | .supervising => true
  | .loading => isRead kind
  | .unconfigured => isRead kind || kind == 49 || within 72 75 kind

/-- A reply is made ready on link `l` (R182): it waits to be sent, and no start bit has been seen since. -/
def stageReply (l : LinkId) (kind : Nat) (a : Answer) (s : State) : State :=
  s.modLink l fun k =>
    { k with reply := some ⟨kind, a.status, a.payload⟩, sending := .waiting, startBitSeen := false }

/-- The link has a receiver that may take a request: the driver is not enabled (R177, R182) and the part has a station address
(R176). -/
def State.listening (s : State) (l : LinkId) : Bool := s.links.address != 0 && !(s.link l).driverOn

/-- A request refused by the checks of R180 changes nothing and carries no payload. -/
def refuse (st : Status) (s : State) : State × Answer := (s, ⟨st, []⟩)

/-- The checks of R180 in their order, and then the owner. `formatOk` is the first two. -/
def checkRequest (l : LinkId) (kind : Nat) (formatOk : Bool) (owner : State → State × Answer) (s : State) : State × Answer :=
  if !formatOk then refuse .refusedFormat s
  else if !authority l kind then refuse .refusedAuthority s
  else if !configTakes s.store.state kind then refuse .refusedUnconfigured s
  else owner s

/-- A valid frame is taken as a request (R179): supervision is refreshed, the checks are made, the owner decides, and the reply
is made ready. A link whose receiver is disabled takes nothing. The receiver is not touched here: a request that comes as its own row
leaves a receiver in COLLECTING as it stands, with the characters that it has, where one that comes as a frame has returned it to
HUNTING (R177): DESIGN CHOICE (notes/assumptions/41.md). -/
def takeRequest (l : LinkId) (kind : Nat) (formatOk : Bool) (owner : State → State × Answer) (s : State) : State :=
  if s.listening l then
    let r := checkRequest l kind formatOk owner (refresh l s)
    stageReply l kind r.2 r.1
  else s

/-! ### Forms of an owner's decision -/

/-- A read: the state as it stands, nothing changed. -/
def answering (f : State → Answer) (s : State) : State × Answer := (s, f s)

/-- A request accepted with an effect; the payload is read from the state after it. -/
def accept (effect : State → State) (payload : State → List Byte) (s : State) : State × Answer :=
  let t := effect s
  (t, ⟨.accepted, payload t⟩)

/-- An owner's refusal: nothing changes, and the payload has the fields that have a value. -/
def decline (st : Status) (payload : List Byte) (s : State) : State × Answer := (s, ⟨st, payload⟩)

/-! ### Events (R187) -/

/-- READ_EVENTS (R187). -/
def ownReadEvents (l : LinkId) (s : State) : State × Answer :=
  let k := s.link l
  (s.modLink l fun k => { k with companions := 0 },
   ⟨.accepted, be 2 k.latches.toNat ++ be 2 k.companions.toNat ++ be 2 k.mask.toNat ++ byte k.attention.code⟩)

/-- The latches and companions of a link after ACK_EVENTS of a set (R187). -/
def Link.acknowledge (set : Word) (k : Link) : Link :=
  { k with latches := k.latches &&& ~~~(set &&& ~~~k.companions)
           companions := k.companions &&& ~~~(set &&& k.latches) }.settleAttention

/-- ACK_EVENTS (R187). -/
def ownAckEvents (l : LinkId) (set : Word) (s : State) : State × Answer :=
  accept (State.modLink l (Link.acknowledge set))
    (fun t => be 2 (t.link l).latches.toNat ++ be 2 (t.link l).companions.toNat) s

/-- SET_EVENT_MASK (R187). -/
def ownSetMask (l : LinkId) (mask : Word) (s : State) : State × Answer :=
  accept (State.modLink l fun k => { k with mask := mask }.settleAttention) (fun t => be 2 (t.link l).mask.toNat) s

/-- READ_LINK (R189): with clear 1 the counts of the requesting link go to 0 after the reply's values are taken. -/
def ownReadLink (l : LinkId) (clear : Nat) (s : State) : State × Answer :=
  match clear with
  | 0 => (s, ⟨.accepted, linksPayload s l⟩)
  | 1 => (s.modLink l fun k => { k with errorCount := 0, abandonedCount := 0 }, ⟨.accepted, linksPayload s l⟩)
  | _ => decline .refusedRange (linksPayload s l) s

/-! ### Fire requests (1.3.1) -/

/-- The state of a zone and its floor's mode (R5, R6). -/
def zonePayload (z : Nat) (s : State) : List Byte :=
  match s.floors.zones[z]? with
  | some x => byte (named (!x.alarm)) ++ byte? ((s.floorMode? x.floor).map FloorMode.code)
  | none => absent 2

/-- ZONE_ALARM (R5). -/
def ownZoneAlarm (z : Nat) (s : State) : State × Answer :=
  if 15 < z then decline .refusedRange (absent 2) s
  else accept (fun t => if t.zoneAlarmed z then t else zoneIntoAlarm z t) (zonePayload z) s

/-- ZONE_CLEAR (R6). -/
def ownZoneClear (z : Nat) (s : State) : State × Answer :=
  if 15 < z then decline .refusedRange (absent 2) s
  else accept (fun t => if t.zoneAlarmed z then zoneIntoClear z t else t) (zonePayload z) s

/-- GENERAL_ALARM with a flag (R7). -/
def ownGeneralAlarm (on : Bool) (s : State) : State × Answer :=
  accept (fun t => if t.floors.gaFlag = on then t else alarmChange (fun x => { x with gaFlag := on }) t) alarmPayload s

/-- GENERAL_ALARM with a field: 0 off, 1 on, any other value refused (R7, 11.4). -/
def ownGeneralAlarmField (v : Nat) (s : State) : State × Answer :=
  match v with
  | 0 => ownGeneralAlarm false s
  | 1 => ownGeneralAlarm true s
  | _ => decline .refusedRange (alarmPayload s) s

/-- FIRE_SILENCE (R8). -/
def ownFireSilence (s : State) : State × Answer :=
  if s.firePresent then accept silenceFire (fun _ => []) s else decline .refusedState [] s

/-- FIRE_RESTORE (R9). Refused, it sends the count of what was not done absent: DESIGN CHOICE (notes/assumptions/6.md). -/
def ownFireRestore (s : State) : State × Answer :=
  if s.floors.zones.any (·.alarm) || s.generalAlarm then decline .refusedState (absent 1) s
  else accept restoreFire (fun _ => byte s.burning) s

/-- OPEN_STORE (R12). Refused, it sends its set absent: DESIGN CHOICE (notes/assumptions/6.md). -/
def ownOpenStore (s : State) : State × Answer :=
  if s.firePresent || s.closedFloors.isEmpty then decline .refusedState (absent 1) s
  else accept reopenStore (fun _ => byte (setBits s.closedFloors)) s

/-! ### FAULT_CLEAR (R19) -/

/-- Records are removed: the table closes up, the table-full flag is cleared, FAULT_TABLE is set (R17, R19). It is set once, however
many records go and whether or not the flag was set, which R17 and R19 leave open: DESIGN CHOICE (notes/assumptions/37.md). -/
def removeRecords (gone : FaultRec → Bool) (s : State) : State :=
  if s.faults.records.any gone then
    (s.modFaults fun t => ⟨t.records.filter fun r => !gone r, false⟩) |> setEvent .faultTable
  else s

/-- A record that FAULT_CLEAR naming all removes: CLEARED, or an ACTIVE BELL_LINE (R19). -/
def FaultRec.clearable (r : FaultRec) : Bool := !r.active || r.kind == .bellLine

/-- The lines that FAULT_CLEAR naming all returns to NORMAL: those of ACTIVE BELL_LINE records and the FAULTED lines without a
record (R19). -/
def State.linesToHeal (s : State) : List Nat :=
  s.lineNumbers.filter fun n =>
    s.faults.records.any (fun r => r.isOf .bellLine n && r.active) || !s.faults.records.any (FaultRec.isOf .bellLine n)

/-- FAULT_CLEAR naming all records (R19). FAULT_TABLE is set where a record is removed, and not where only FAULTED lines without a
record become NORMAL, which R19's "if anything changed" leaves open: DESIGN CHOICE (notes/assumptions/37.md). -/
def ownFaultClearAll (s : State) : State × Answer :=
  accept (fun t => t.linesToHeal.foldl (fun u n => healLine n u) (removeRecords FaultRec.clearable t))
    (fun _ => byte (s.faults.records.countP FaultRec.clearable)) s

/-- FAULT_CLEAR of a single record (R19). Refused, it sends its count absent: DESIGN CHOICE (notes/assumptions/6.md). FAULT_TABLE is
set where the record is removed, and not where only a FAULTED line without a record becomes NORMAL: DESIGN CHOICE
(notes/assumptions/37.md). -/
def ownFaultClearOne (k : FaultKind) (src : Nat) (s : State) : State × Answer :=
  match s.faults.find k src with
  | some r =>
    if !r.active then accept (removeRecords (FaultRec.isOf k src)) (fun _ => byte 1) s
    else if k = .bellLine then
      accept (fun t => (removeRecords (FaultRec.isOf k src) t) |> healLine src) (fun _ => byte 1) s
    else decline .refusedState (absent 1) s
  | none =>
    if k = .bellLine ∧ ((s.line? src).any (·.faulted)) = true then accept (healLine src) (fun _ => byte 0) s
    else decline .refusedState (absent 1) s

/-- FAULT_CLEAR (R19): kind 255 names all (11.4). -/
def ownFaultClear (kind source : Nat) (s : State) : State × Answer :=
  if kind = 255 then ownFaultClearAll s
  else match FaultKind.ofCode kind with
    | none => decline .refusedRange (absent 1) s
    | some k => if k.sourceOk source then ownFaultClearOne k source s else decline .refusedRange (absent 1) s

/-! ### Paternoster requests (chapter 3) -/

/-- The state of the paternoster in a reply. -/
def drivePayloadState (s : State) : List Byte := byte s.drive.state.code

/-- PATERNOSTER_START (R45). The byte of the failed starting conditions, which 11.4 lists for every reply and R45 gives for a refusal
in OFF alone, is 0 in an accepted reply, no condition having failed, and absent in a refusal in another state: DESIGN CHOICE
(notes/assumptions/6.md). -/
def ownStart (s : State) : State × Answer :=
  if s.drive.state = .off then
    if s.mayStart then accept beginWarning (fun t => drivePayloadState t ++ byte 0) s
    else decline .refusedState (drivePayloadState s ++ byte (flagBits (s.startConditions.map (!·)))) s
  else decline .refusedState (drivePayloadState s ++ absent 1) s

/-- PATERNOSTER_STOP (R53). -/
def ownStop (s : State) : State × Answer :=
  if s.drive.state.refusesStop then decline .refusedState (drivePayloadState s) s
  else accept driveStop drivePayloadState s

/-- STOP_NOW (R59). -/
def ownStopNow (s : State) : State × Answer :=
  if s.drive.state.refusesStop then decline .refusedState (drivePayloadState s) s
  else accept driveStopNow drivePayloadState s

/-- Every ACTIVE latched paternoster record becomes CLEARED (R18). -/
def clearLatched (s : State) : State := (FaultKind.all.filter (·.isPaternoster)).foldl (fun t k => endFault k 0 t) s

/-- HALT_RESET (R63). Refused, it sends its count absent: DESIGN CHOICE (notes/assumptions/6.md). -/
def ownHaltReset (s : State) : State × Answer :=
  if s.drive.state = .halt ∧ s.tripActive = false ∧ s.loop.good = true then
    accept (fun t => (clearLatched t) |> enterState .off)
      (fun _ => byte (s.faults.records.countP fun r => r.active && r.kind.isPaternoster)) s
  else decline .refusedState (absent 1) s

/-- INCH in a direction (R64, R65). -/
def ownInchDir (dir : Direction) (s : State) : State × Answer :=
  match s.drive.state, s.drive.inch with
  | .off, _ => if s.mayInch then accept (beginInch .off dir) drivePayloadState s else decline .refusedState (drivePayloadState s) s
  | .halt, _ =>
    if s.mayInch then accept (beginInch .halt dir) drivePayloadState s else decline .refusedState (drivePayloadState s) s
  | .inch, some i =>
    if i.direction = dir then
      accept (State.modDrive fun d => { d with inch := some { i with lease := 600 } }) drivePayloadState s
    else decline .refusedState (drivePayloadState s) s
  | _, _ => decline .refusedState (drivePayloadState s) s

/-- INCH (R64): a direction of any other value is refused, whatever the state of the drive: DESIGN CHOICE as to that order
(notes/assumptions/35.md). -/
def ownInch (direction : Nat) (s : State) : State × Answer :=
  match direction with
  | 0 => ownInchDir .forward s
  | 1 => ownInchDir .reverse s
  | _ => decline .refusedRange (drivePayloadState s) s

/-! ### Shutter requests (4.7) -/

/-- The state of a shutter in a reply. -/
def shutterPayloadState (i : Nat) (s : State) : List Byte := byte? ((s.shutterState? i).map ShutterState.code)

/-- The checks that every shutter request makes first (4.7): the shutter exists, and the field loop is GOOD, asked in that order:
DESIGN CHOICE (notes/assumptions/35.md). -/
def ownShutter (i : Nat) (own : Shutter → State → State × Answer) (s : State) : State × Answer :=
  match s.shutter? i with
  | none => decline .refusedRange (absent 1) s
  | some sh => if s.loop.good then own sh s else decline .refusedState (shutterPayloadState i s) s

/-- SHUTTER_TEST (R87). -/
def ownTest (i : Nat) (s : State) : State × Answer :=
  ownShutter i (fun sh t =>
    if sh.state = .opened ∧ t.floorInFire (t.shutterCfg i).floor = false ∧ t.mayMove i = true then
      accept (fun u => takeDepartures u (dropShutters [i] u)) (shutterPayloadState i) t
    else decline .refusedState (shutterPayloadState i t) t) s

/-- A floor whose shutters may be raised one by one (R88). -/
def FloorMode.open? : FloorMode → Bool
  | .opened | .warned | .opening => true
  | _ => false

/-- SHUTTER_RAISE (R88). -/
def ownRaise (i : Nat) (s : State) : State × Answer :=
  ownShutter i (fun sh t =>
    if sh.state = .waitSlot .up then accept id (shutterPayloadState i) t
    else if (sh.state = .closed ∨ sh.state = .jammed) ∧ (t.floorMode? (t.shutterCfg i).floor).any FloorMode.open? = true
        ∧ t.dropDemand i = false ∧ t.supplyLow = false then
      accept (fun u => (changeShutter i (fun x => { x with state := .waitSlot .up }) u) |> arbiter) (shutterPayloadState i) t
    else decline .refusedState (shutterPayloadState i t) t) s

/-- SHUTTER_INHIBIT(on) (R89). -/
def ownInhibitOn (i : Nat) (s : State) : State × Answer :=
  ownShutter i (fun sh t =>
    if sh.state = .inhibited then accept id (shutterPayloadState i) t
    else if (sh.state = .opened ∨ sh.state = .closed ∨ sh.state = .jammed) ∧ t.dropDemand i = false then
      accept (fun u => takeDepartures u
        (changeShutter i (fun x => { x.energise with state := .inhibited, inhibitedByRequest := true }) u))
        (shutterPayloadState i) t
    else decline .refusedState (shutterPayloadState i t) t) s

/-- SHUTTER_INHIBIT(off) (R90). The request flag is cleared before the shutter is resolved, so that SHUTTER is set for each: DESIGN
CHOICE (notes/assumptions/43.md). -/
def ownInhibitOff (i : Nat) (s : State) : State × Answer :=
  ownShutter i (fun sh t =>
    if sh.state = .inhibited then
      accept (fun u => (changeShutter i (fun x => { x with inhibitedByRequest := false }) u)
        |> resolveShutter i |> arbiter) (shutterPayloadState i) t
    else accept id (shutterPayloadState i) t) s

/-- SHUTTER_INHIBIT with a field: 0 off, 1 on, any other value refused (R89). 4.7 refuses every shutter request with REFUSED_STATE
while the field loop is FAULTED; a field of another value is tested before that and answered REFUSED_RANGE: DESIGN CHOICE
(notes/assumptions/35.md). -/
def ownInhibitField (i v : Nat) (s : State) : State × Answer :=
  match v with
  | 0 => ownInhibitOff i s
  | 1 => ownInhibitOn i s
  | _ => decline .refusedRange (shutterPayloadState i s) s

/-! ### Bell requests (R102, R116, R117) -/

/-- WRITE_CODE's fields are in range (R102). -/
def codeOk (code count : Nat) (strokes : List Nat) (mask : Word) : Bool :=
  within 1 31 code && within 1 4 count && (groupsOf count strokes).all (within 1 6)
    && mask.toNat < 512 && (3 < code || mask == 0)

/-- WRITE_CODE (R102): the code as written and its length in milliseconds. The places of groups that the code has not are sent 0, and
a refusal sends the whole absent: DESIGN CHOICE (notes/assumptions/6.md). -/
def ownWriteCode (code count : Nat) (strokes : List Nat) (mask : Word) (s : State) : State × Answer :=
  let groups := groupsOf count strokes
  if codeOk code count strokes mask then
    accept (State.modOp fun o => { o with codes := o.codes.set (code - 1) ⟨groups, mask.toNat⟩ })
      (fun _ => byte code ++ byte count ++ (pad 4 0 groups).flatMap byte ++ be 2 mask.toNat ++ be 2 (patternLength groups)) s
  else decline .refusedRange (absent 10) s

/-- CANCEL_CALL (R116). -/
def ownCancelCall (p : Nat) (s : State) : State × Answer :=
  if s.eng.callCount ≤ p then decline .refusedRange (absent 2) s
  else match s.bells.calls.find? fun c => c.callPoint == p && c.state == .pending with
    | some c => accept (endCall c.callId .expired none) (fun _ => be 2 c.callId) s
    | none => decline .refusedState (absent 2) s

/-- CLEAR_CALLS (R117). -/
def ownClearCalls (s : State) : State × Answer :=
  accept (removeCalls fun c => c.state != .pending) (fun _ => byte (s.bells.calls.countP fun c => c.state != .pending)) s

/-! ### Clock and plan requests (chapter 6) -/

/-- The status of today's plan record in a reply. -/
def planStatusPayload (s : State) : List Byte := byte s.plan.status.code

/-- The store count is set (R125): the prescaler restarts, CLOCK_NOT_SET ends, CLOCK is set; a new day or a flag that was clear is
a day change; the record is rebuilt and evaluated. -/
def setCount (n : Nat) (s : State) : State :=
  let t := (s.modClock fun _ => ⟨n % 4294967296, true, 0, s.nextSecond, 0⟩)
    |> (if s.clock.isSet then id else endFault .clockNotSet 0) |> setEvent .clock
  (if t.today ≠ s.today ∨ s.clock.isSet = false then pruneExceptions t else t) |> replan

/-- SET_CLOCK (R125). -/
def ownSetClock (n : Nat) (s : State) : State × Answer :=
  accept (setCount n) (fun t => be 4 t.clock.count ++ be 4 t.today ++ be 4 (t.clock.count % 86400) ++ byte (t.weekday t.today)
    ++ planStatusPayload t) s

/-- WRITE_SCHEDULE (R127). -/
def ownWriteSchedule (weekday closing : Nat) (s : State) : State × Answer :=
  match closingOf closing with
  | some c =>
    if weekday ≤ 6 then
      accept (fun t =>
        let u := t.modOp fun o => { o with schedule := o.schedule.set weekday c }
        if t.weekday t.plan.day = weekday ∧ t.planCarried = false then replan u else u)
        (fun t => closingField c ++ planStatusPayload t) s
    else decline .refusedRange (absent 4 ++ planStatusPayload s) s
  | none => decline .refusedRange (absent 4 ++ planStatusPayload s) s

/-- An entry of the exception list is inserted in day order, or replaces the entry of its day (R128). -/
def putException (x : PlanException) : List PlanException → List PlanException
  | [] => [x]
  | y :: ys => if y.day < x.day then y :: putException x ys else if y.day = x.day then x :: ys else x :: y :: ys

/-- The exception list changes (R128): a change of the entry of the record's day rebuilds and evaluates the plan unless it is
carried. -/
def writeExceptions (day : Nat) (xs : List PlanException) (s : State) : State :=
  let t := s.modOp fun o => { o with exceptions := xs }
  if xs != s.store.op.exceptions && day == s.plan.day && !s.planCarried then replan t else t

/-- The reply to WRITE_EXCEPTION: the number of entries and the status of the plan (R128). -/
def exceptionPayload (s : State) : List Byte := byte s.store.op.exceptions.length ++ planStatusPayload s

/-- WRITE_EXCEPTION (R128). The range is tested before the room in the list: DESIGN CHOICE (notes/assumptions/35.md). -/
def ownWriteException (day closing : Nat) (s : State) : State × Answer :=
  let xs := s.store.op.exceptions
  let listed := xs.any fun (x : PlanException) => x.day == day
  if day < s.today then decline .refusedRange (exceptionPayload s) s
  else if closing = closingRemove then
    accept (writeExceptions day (xs.filter fun (x : PlanException) => x.day != day)) exceptionPayload s
  else match closingOf closing with
    | none => decline .refusedRange (exceptionPayload s) s
    | some c =>
      if listed || xs.length < 16 then accept (writeExceptions day (putException ⟨day, c⟩ xs)) exceptionPayload s
      else decline .refusedFull (exceptionPayload s) s

/-- WRITE_PLAN (R130). A request that is out of range while the record is RUNNING has both refusals of R130, which gives no
precedence: the range is tested first. DESIGN CHOICE (notes/assumptions/35.md). -/
def ownWritePlan (w1 w2 stagger : Nat) (order : List Nat) (s : State) : State × Answer :=
  if w1 ≤ 60 ∧ w2 ≤ w1 ∧ stagger ≤ 600 ∧ isOrder s.eng.floorCount order = true then
    if s.plan.status = .running then decline .refusedState (planStatusPayload s) s
    else accept (fun t => (t.modOp fun o => { o with w1 := w1, w2 := w2, stagger := stagger, order := order })
      |> placeFloors |> replan) planStatusPayload s
  else decline .refusedRange (planStatusPayload s) s

/-- T in the store count and as a second of day (R139); absent where base_close is NONE, so that there is no T (R131, R183). The
second of day of a T beyond the wrap of the store count is that of the count not wrapped: DESIGN CHOICE (notes/assumptions/22.md). -/
def holdPayload (s : State) : List Byte :=
  if s.plan.baseClose.isSome then be 4 s.plan.closeTime ++ be 4 (s.plan.closeTime % 86400) else absent 8

/-- HOLD_CLOSING (R139). With `m` out of range in a status other than WAITING both refusals of R139 hold, and it gives no precedence:
the range is tested first. DESIGN CHOICE (notes/assumptions/35.md). -/
def ownHoldClosing (m : Nat) (s : State) : State × Answer :=
  if within 1 60 m then
    if s.plan.status = .waiting then
      accept (fun t => putPlan { t.plan with holdTotal := min 120 (t.plan.holdTotal + m) } t) holdPayload s
    else decline .refusedState (holdPayload s) s
  else decline .refusedRange (holdPayload s) s

/-- The store is closed at once (R141). -/
def closeNow (s : State) : State :=
  (if s.plan.status = .running then takePositions 8 s
   else (putPlan { s.plan with warn1 := s.plan.warn1.skip, warn2 := s.plan.warn2.skip } s) |> takeClose)
    |> settlePlan |> look

/-- CLOSE_NOW (R141). -/
def ownCloseNow (s : State) : State × Answer :=
  let payload := fun (t : State) => planStatusPayload t ++ byte (setBits t.stillToClose)
  if s.firePresent = true ∨ s.stillToClose = [] ∨ s.clock.isSet = false then decline .refusedState (payload s) s
  else accept closeNow payload s

/-! ### Announcement requests (chapter 7) -/

/-- WRITE_SCRIPT (R145). Refused, it sends the slot that it names, absent above 7, and absent for the copy that was not made: DESIGN
CHOICE (notes/assumptions/6.md). -/
def ownWriteScript (slot mask : Nat) (phrases : List Nat) (s : State) : State × Answer :=
  let c : Copy := ⟨phrases, mask⟩
  if slot ≤ 7 ∧ phrases.all (· ≤ 1023) = true ∧ within 1 255 mask = true then
    if s.onAir slot then
      accept (State.modAnnounce fun a => { a with pendingCopies := a.pendingCopies.set slot (some c) })
        (fun _ => byte slot ++ byte 1 ++ byte phrases.length) s
    else
      accept (fun t => (t.modOp fun o => { o with scripts := o.scripts.set slot (some c) })
        |> State.modAnnounce (fun a => { a with pendingCopies := a.pendingCopies.set slot none })
        |> keepEvac none |> look)
        (fun _ => byte slot ++ byte 0 ++ byte phrases.length) s
  else decline .refusedRange ((if slot ≤ 7 then byte slot else absent 1) ++ absent 2) s

/-- QUEUE_ANNOUNCEMENT (R148): the tests in their order, and the position of the entry as it joined. -/
def ownQueue (slot : Nat) (s : State) : State × Answer :=
  if 6 < slot then decline .refusedRange (absent 1) s
  else if 8 ≤ s.announce.queue.length then decline .refusedFull (absent 1) s
  else if s.queued slot || s.onAir slot then decline .refusedDuplicate (absent 1) s
  else if (s.copy? slot).isNone then decline .refusedState (absent 1) s
  else
    let qs := insertEntry ⟨slot, .office, s.clock.count, none⟩ s.announce.queue
    accept (fun t => (t.modQueue fun _ => qs) |> look) (fun _ => byte (qs.findIdx fun q => q.slot == slot)) s

/-- CANCEL_ANNOUNCEMENT of the playout on air (R150): it is marked, and outside a phrase it leaves the air at once. -/
def cancelOnAir (p : Playout) (s : State) : State :=
  let t := s.modPlayout fun x => { x with cancelled := true }
  if p.phase = .phrase then t else leaveAir .cancelled false t

/-- CANCEL_ANNOUNCEMENT (R150). -/
def ownCancel (slot : Nat) (s : State) : State × Answer :=
  if 7 < slot then decline .refusedRange [] s
  else match s.announce.queue.find? fun q => q.slot == slot with
    | some q =>
      if q.cls = .evac then decline .refusedState [] s
      else accept (State.modQueue fun qs => qs.filter fun x => x.slot != slot) (fun _ => []) s
    | none =>
      match s.airborne with
      | some p =>
        if p.slot ≠ slot ∨ p.cls = .evac then decline .refusedState [] s
        else if p.cancelled then accept id (fun _ => []) s
        else accept (cancelOnAir p) (fun _ => []) s
      | none => decline .refusedState [] s

/-! ### Configuration requests (chapter 10) -/

/-- The reply to CONFIG_BEGIN (R195). -/
def beginPayload (s : State) : List Byte :=
  byte s.store.state.code ++ byte s.store.loadResult.code
    ++ (match s.store.loadFailure with
        | some f => byte f.1 ++ byte f.2
        | none => absent 2)
    ++ byte (flag s.store.save.isSome) ++ byte s.store.lastSave.code

/-- CONFIG_BEGIN (R195). -/
def ownConfigBegin (s : State) : State × Answer :=
  if s.store.shadow.isNone && s.configQuiet then
    accept (State.modStore fun st => { st with shadow := some s.newShadow }) beginPayload s
  else decline .refusedState (beginPayload s) s

/-- CONFIG_WRITE (R196). The session is asked for before the range: DESIGN CHOICE (notes/assumptions/35.md). Refused, it has written nothing, and sends the count of bytes written absent: DESIGN CHOICE
(notes/assumptions/6.md). -/
def ownConfigWrite (sect offset : Nat) (bytes : List Byte) (s : State) : State × Answer :=
  let place := byte sect ++ be 2 offset
  match s.store.shadow with
  | none => decline .refusedState (place ++ absent 1) s
  | some sh =>
    if within 1 9 sect = true ∧ offset + bytes.length ≤ sectionLengths.getD (sect - 1) 0 then
      accept (State.modStore fun st => { st with shadow := some (splice (sectionStart sect + offset) bytes sh) })
        (fun _ => place ++ byte bytes.length) s
    else decline .refusedRange (place ++ absent 1) s

/-- CONFIG_ABORT (R197). -/
def ownConfigAbort (s : State) : State × Answer := accept dropShadow (fun _ => []) s

/-- CONFIG_END (R198). Only REFUSED_RANGE carries the failing section and field (11.4). -/
def ownConfigEnd (s : State) : State × Answer :=
  match s.store.shadow with
  | none => decline .refusedState [] s
  | some sh =>
    if s.configQuiet then
      match firstFailure (Eng.ofBytes sh) s.store.op.raw with
      | some f => decline .refusedRange (byte f.1 ++ byte f.2) s
      | none =>
        accept (if s.supervising then applyConfig (Eng.ofBytes sh) else applyFirst (Eng.ofBytes sh)) (fun _ => []) s
    else decline .refusedState [] s

/-- CONFIG_SAVE (R199). -/
def ownConfigSave (s : State) : State × Answer :=
  match s.store.eng, s.store.save with
  | some e, none => accept (beginSave e) (fun _ => []) s
  | _, _ => decline .refusedState [] s

/-! ### A frame becomes a request (R179, 11.4) -/

/-- The lengths that 11.4 gives for each request kind. -/
def lengthOk (kind len : Nat) : Bool :=
  match kind with
  | 1 | 2 | 3 | 4 | 5 | 6 | 8 | 10 | 11 | 12 | 16 | 17 | 18 | 36 | 40 | 41 | 43 | 66 | 68 | 69 => len == 1
  | 7 | 14 | 15 | 70 | 71 => len == 2
  | 9 | 13 | 19 | 20 | 37 | 38 | 44 | 48 | 49 | 64 | 65 | 67 | 72 | 74 | 75 => len == 0
  | 32 => len == 4
  | 33 => len == 5
  | 34 | 42 => len == 8
  | 35 => within 5 12 len
  | 39 => within 4 34 len && len % 2 == 0
  | 73 => within 4 60 len
  | _ => false

/-- Two bytes for each phrase of WRITE_SCRIPT. -/
def phrasesOf : List Byte → List Nat
  | a :: b :: rest => ofBe [a, b] :: phrasesOf rest
  | _ => []

/-- The owner of a request kind, with the fields of its payload in their order on the line (11.4). -/
def frameOwner (l : LinkId) (kind : Nat) (p : List Byte) : State → State × Answer :=
  let u1 := fun i => (p.getD i 0).toNat
  let u2 := fun i => ofBe ((p.drop i).take 2)
  let u4 := fun i => ofBe ((p.drop i).take 4)
  match kind with
  | 1 => answering fun s => answerFloors s (u1 0)
  | 2 => answering fun s => answerZones s (u1 0)
  | 3 => answering fun s => answerPaternoster s (u1 0)
  | 4 => answering fun s => answerShutters s (u1 0)
  | 5 => answering fun s => answerCalls s (u1 0)
  | 6 => answering fun s => answerLine s (u1 0)
  | 7 => answering fun s => answerQueue s (u1 0) (u1 1)
  | 8 => answering fun s => answerFaults s (u1 0)
  | 9 => answering answerClock
  | 10 => answering fun s => answerPlan s (u1 0)
  | 11 => answering fun s => answerAnalog s (u1 0)
  | 12 => ownReadLink l (u1 0)
  | 13 => ownReadEvents l
  | 14 => ownAckEvents l (BitVec.ofNat 16 (u2 0))
  | 15 => ownSetMask l (BitVec.ofNat 16 (u2 0))
  | 16 => ownZoneAlarm (u1 0)
  | 17 => ownZoneClear (u1 0)
  | 18 => ownGeneralAlarmField (u1 0)
  | 19 => ownFireSilence
  | 20 => ownFireRestore
  | 32 => ownSetClock (u4 0)
  | 33 => ownWriteSchedule (u1 0) (u4 1)
  | 34 => ownWriteException (u4 0) (u4 4)
  | 35 => ownWritePlan (u1 0) (u1 1) (u2 2) ((p.drop 4).map (·.toNat))
  | 36 => ownHoldClosing (u1 0)
  | 37 => ownCloseNow
  | 38 => ownOpenStore
  | 39 => ownWriteScript (u1 0) (u1 1) (phrasesOf (p.drop 2))
  | 40 => ownQueue (u1 0)
  | 41 => ownCancel (u1 0)
  | 42 => ownWriteCode (u1 0) (u1 1) [u1 2, u1 3, u1 4, u1 5] (BitVec.ofNat 16 (u2 6))
  | 43 => ownCancelCall (u1 0)
  | 44 => ownClearCalls
  | 48 => ownStop
  | 49 => ownConfigSave
  | 64 => ownStart
  | 65 => ownStopNow
  | 66 => ownInch (u1 0)
  | 67 => ownHaltReset
  | 68 => ownTest (u1 0)
  | 69 => ownRaise (u1 0)
  | 70 => ownInhibitField (u1 0) (u1 1)
  | 71 => ownFaultClear (u1 0) (u1 1)
  | 72 => ownConfigBegin
  | 73 => ownConfigWrite (u1 0) (u2 1) (p.drop 3)
  | 74 => ownConfigEnd
  | 75 => ownConfigAbort
  | _ => refuse .refusedFormat

/-- A frame is discarded (R178): the error count is incremented, saturating at 255, and the receiver hunts. -/
def discardFrame (l : LinkId) (s : State) : State :=
  s.modLink l fun k => { k with receiver := .hunting, errorCount := min 255 (k.errorCount + 1) }

/-- A frame has come: LEN, KIND, payload and CRC (R177 to R179). One whose LEN is above 60 or does not agree with it, and one whose
CRC does not match, is discarded; a valid one is taken as a request. -/
def receiveFrame (l : LinkId) (f : List Byte) (s : State) : State :=
  let len := (f.getD 0 0).toNat
  let body := f.take (len + 2)
  if len ≤ 60 ∧ f.length = len + 4 ∧ f.drop (len + 2) = crcBytes body then
    let kind := (f.getD 1 0).toNat
    let p := body.drop 2
    takeRequest l kind (kind < 128 && lengthOk kind len) (frameOwner l kind p)
      (s.modLink l fun k => { k with receiver := .hunting })
  else discardFrame l s

/-- A character in COLLECTING (R177, R178), with the data characters collected so far. -/
def collect (l : LinkId) (got : List Byte) (mark : Bool) (b : Byte) (stopOk : Bool) (s : State) : State :=
  if !stopOk then discardFrame l s
  else if mark then
    if b.toNat = s.links.address then s.modLink l fun k => { k with receiver := .collecting [] } else discardFrame l s
  else
    let g := got ++ [b]
    let len := (g.getD 0 0).toNat
    if 60 < len then discardFrame l s
    else if g.length = len + 4 then receiveFrame l g s
    else s.modLink l fun k => { k with receiver := .collecting g }

/-- A character on the line of link `l` (R176 to R178); its start bit is seen by a reply that waits (R182). -/
def receiveCharacter (l : LinkId) (mark : Bool) (b : Byte) (stopOk : Bool) (s : State) : State :=
  if (s.link l).driverOn then s
  else
    let t := s.modLink l fun k => { k with startBitSeen := k.startBitSeen || k.sending == .waiting }
    match (s.link l).receiver with
    | .collecting got => collect l got mark b stopOk t
    | .hunting =>
      if stopOk && mark && b.toNat == s.links.address && s.links.address != 0 then
        t.modLink l fun k => { k with receiver := .collecting [] }
      else t

/-! ### Sending a reply (R182, R183) -/

/-- The characters of a reply frame: address 0 with the mark bit set, then LEN, KIND + 128, STATUS, the payload and the CRC as data
characters (R183, 11.1). For a refused KIND of 128 or above, whose KIND + 128 does not fit the byte, it is sent modulo 256: DESIGN
CHOICE (notes/assumptions/44.md). -/
def Reply.frame (r : Reply) : List LineChar :=
  let body := byte r.payload.length ++ byte (r.kind + 128) ++ byte r.status.code ++ r.payload
  ⟨true, 0⟩ :: (body ++ crcBytes body).map fun b => ⟨false, b⟩

/-- The reply is due (R182): a line that is not idle abandons it, and otherwise the driver is enabled for its lead time. -/
def replyDue (k : Link) : Link :=
  match k.sending with
  | .waiting =>
    if k.startBitSeen then
      { k with reply := none, sending := .idle, abandonedCount := min 255 (k.abandonedCount + 1), startBitSeen := false }
    else { k with sending := .lead, receiver := .hunting }
  | _ => k

/-- The lead time ends and the characters are sent (R182). -/
def replyLeadEnd (k : Link) : Link :=
  match k.sending with
  | .lead => { k with sending := .sending, onLine := (k.reply.map Reply.frame).getD [] }
  | _ => k

/-- The last stop bit has been sent; the driver is held for the tail time (R182). -/
def replySendDone (k : Link) : Link :=
  match k.sending with
  | .sending => { k with sending := .tail, onLine := [] }
  | _ => k

/-- The driver is released; the receiver hunts (R177, R182). -/
def replyTailEnd (k : Link) : Link :=
  match k.sending with
  | .tail => { k with sending := .idle, reply := none, receiver := .hunting }
  | _ => k

/-! ### Supervision (R184, R185) -/

/-- A link becomes LOST (R184, R185): the engine-room link's loss ends inching and discards the edit session. R184 and R185 give the
raising of LINK_LOST and the end of inching no order: LINK_LOST is raised first, which matters only with a full fault table when the chain
deemed still at that brake lets a grant end a SHUTTER_JAM: DESIGN CHOICE (notes/assumptions/8.md). -/
def loseLink (l : LinkId) (s : State) : State :=
  let t := (s.modLink l fun k => { k with state := .lost }) |> setEvent .linkState |> raiseFault .linkLost (linkCode l)
  match l with
  | .E => (if t.drive.state = .inch then endInching t else t) |> dropShadow
  | .F | .O => t

end Sys2Proof.Machine
end

