-- ==== Sys2Proof/Machine/StartUpCommands.lean ====
section
/-! DEFINITION. The meanings of the start-up commands (chapter 10): the resets, the reading of the memory, the end of LOADING.
A command that is the end of a time is taken when it comes; no meaning asks whether the model's own count of that time has run
out (notes/assumptions/11.md). -/

namespace Sys2Proof.Machine

/-- The outcome of every meaning of this model: a next state. -/
abbrev Result := Host.Outcome State Fault Refusal

/-- POWER_ON_RESET (R124, R192): the clock is cleared and start-up begins; commands that wait stay in the queue. -/
def execPowerOnReset (pins : Pins) (s : State) : Result := .next (startUp pins Clock.powerOn s)

/-- EXTERNAL_RESET (R124, R192): the clock survives and start-up begins. The second in progress keeps the length that it began with,
although the trim is 0 in LOADING (R122): DESIGN CHOICE (notes/assumptions/39.md). -/
def execExternalReset (pins : Pins) (s : State) : Result := .next (startUp pins s.clock s)

/-- IMAGE_READ_DONE (R192, R193): the reading is judged while the part is LOADING and has judged none. -/
def execImageReadDone (memory : List Byte) (s : State) : Result :=
  .next (if s.store.state = .loading ∧ s.store.loaded = none then takeReading (judge memory) s else s)

/-- What the reading that times out now has read of the engineering part, if it had passed the marker, format and length tests
(R192, R195): free values, fresh for each such reading (notes/assumptions/29.md). -/
def State.timedOutRead (s : State) : Option (List Byte) :=
  let n := s.store.timeouts
  if Config.timedOutPassed n then some ((List.range engLength).map (Config.timedOutByte n)) else none

/-- LOADING_TIMEOUT (R192): a reading not yet judged whole ends with TIMEOUT, and what it had read stands for a later edit session
(R195). -/
def execLoadingTimeout (s : State) : Result :=
  .next (if s.store.state = .loading ∧ s.store.loaded = none then
      (enterUnconfigured ⟨.timeout, none, none, s.timedOutRead⟩ s).modStore fun st => { st with timeouts := st.timeouts + 1 }
    else s)

/-- ENTER_SUPERVISING (R193): with a good reading waiting, every block takes it up. -/
def execEnterSupervising (s : State) : Result :=
  .next (match s.store.state, s.store.loaded with
    | .loading, some (e, o) => enterSupervising e o s
    | _, _ => s)

end Sys2Proof.Machine
end

