-- ==== Sys2Proof/Machine/LinkCommands.lean ====
section
/-! DEFINITION. The meanings of the link events (chapter 9): frames and characters, the sending of a reply, supervision, the
attention line. -/

namespace Sys2Proof.Machine

/-- REQUEST_FRAME (R179): a complete frame addressed to the part, while the receiver is enabled (R182). -/
def execRequestFrame (l : LinkId) (frame : List Byte) (s : State) : Result :=
  .next (if s.listening l then receiveFrame l frame s else s)

/-- The receiver is in COLLECTING (R177). -/
def Link.isCollecting (k : Link) : Bool :=
  match k.receiver with
  | .collecting _ => true
  | .hunting => false

/-- INTER_CHARACTER_TIMEOUT (R178): a frame in COLLECTING is discarded. -/
def execInterCharacterTimeout (l : LinkId) (s : State) : Result :=
  .next (if (s.link l).isCollecting then discardFrame l s else s)

/-- REPLY_DUE (R182). -/
def execReplyDue (l : LinkId) (s : State) : Result := .next (s.modLink l replyDue)

/-- REPLY_LEAD_END (R182, R183). -/
def execReplyLeadEnd (l : LinkId) (s : State) : Result := .next (s.modLink l replyLeadEnd)

/-- REPLY_SEND_DONE (R182). -/
def execReplySendDone (l : LinkId) (s : State) : Result := .next (s.modLink l replySendDone)

/-- REPLY_TAIL_END (R177, R182). -/
def execReplyTailEnd (l : LinkId) (s : State) : Result := .next (s.modLink l replyTailEnd)

/-- LINK_SUPERVISION_EXPIRY (R184, R185): supervision runs and the link is not LOST. -/
def execLinkSupervisionExpiry (l : LinkId) (s : State) : Result :=
  .next (if s.supervised l = true ∧ (s.link l).state ≠ .lost then loseLink l s else s)

/-- The end of HOLDOFF on one link (R188). -/
def Link.endHoldoff (k : Link) : Link :=
  match k.attention with
  | .holdoff _ => { k with attention := if k.wantsAttention then .asserted else .released }
  | _ => k

/-- ATTENTION_HOLDOFF_END (R188). -/
def execAttentionHoldoffEnd (l : LinkId) (s : State) : Result := .next (s.modLink l Link.endHoldoff)

/-- CHARACTER_RECEIVED (R176 to R178, R182). -/
def execCharacterReceived (l : LinkId) (mark : Bool) (b : Byte) (stopOk : Bool) (s : State) : Result :=
  .next (receiveCharacter l mark b stopOk s)

/-- LINE_START_BIT_SEEN (R182): a reply that waits will find the line not idle. -/
def execLineStartBitSeen (l : LinkId) (s : State) : Result :=
  .next (s.modLink l fun k => { k with startBitSeen := k.startBitSeen || k.sending == .waiting })

end Sys2Proof.Machine
end

