-- ==== Sys2Proof/Machine/ReadCommands.lean ====
section
/-! DEFINITION. The meanings of the read requests and the event requests: kinds 1 to 15 of 11.4, which any link may send and which
are answered in every state of the part (R180, R181). -/

namespace Sys2Proof.Machine

/-- READ_FLOORS (R13). -/
def execReadFloors (l : LinkId) (part : Nat) (s : State) : Result :=
  .next (takeRequest l 1 true (answering fun t => answerFloors t part) s)

/-- READ_ZONES (R13). -/
def execReadZones (l : LinkId) (part : Nat) (s : State) : Result :=
  .next (takeRequest l 2 true (answering fun t => answerZones t part) s)

/-- READ_PATERNOSTER (R38, R66). -/
def execReadPaternoster (l : LinkId) (part : Nat) (s : State) : Result :=
  .next (takeRequest l 3 true (answering fun t => answerPaternoster t part) s)

/-- READ_SHUTTERS (R94). -/
def execReadShutters (l : LinkId) (first : Nat) (s : State) : Result :=
  .next (takeRequest l 4 true (answering fun t => answerShutters t first) s)

/-- READ_CALLS (R118). -/
def execReadCalls (l : LinkId) (first : Nat) (s : State) : Result :=
  .next (takeRequest l 5 true (answering fun t => answerCalls t first) s)

/-- READ_BELL_LINES (R119). -/
def execReadBellLines (l : LinkId) (line : Nat) (s : State) : Result :=
  .next (takeRequest l 6 true (answering fun t => answerLine t line) s)

/-- READ_QUEUE (R159). -/
def execReadQueue (l : LinkId) (part slot : Nat) (s : State) : Result :=
  .next (takeRequest l 7 true (answering fun t => answerQueue t part slot) s)

/-- READ_FAULTS (R21). -/
def execReadFaults (l : LinkId) (first : Nat) (s : State) : Result :=
  .next (takeRequest l 8 true (answering fun t => answerFaults t first) s)

/-- READ_CLOCK (R126). -/
def execReadClock (l : LinkId) (s : State) : Result := .next (takeRequest l 9 true (answering answerClock) s)

/-- READ_PLAN (R142). -/
def execReadPlan (l : LinkId) (part : Nat) (s : State) : Result :=
  .next (takeRequest l 10 true (answering fun t => answerPlan t part) s)

/-- READ_ANALOG (R174). -/
def execReadAnalog (l : LinkId) (part : Nat) (s : State) : Result :=
  .next (takeRequest l 11 true (answering fun t => answerAnalog t part) s)

/-- READ_LINK (R189). -/
def execReadLink (l : LinkId) (clear : Nat) (s : State) : Result := .next (takeRequest l 12 true (ownReadLink l clear) s)

/-- READ_EVENTS (R187). -/
def execReadEvents (l : LinkId) (s : State) : Result := .next (takeRequest l 13 true (ownReadEvents l) s)

/-- ACK_EVENTS (R187). -/
def execAckEvents (l : LinkId) (set : Word) (s : State) : Result := .next (takeRequest l 14 true (ownAckEvents l set) s)

/-- SET_EVENT_MASK (R187). -/
def execSetEventMask (l : LinkId) (mask : Word) (s : State) : Result :=
  .next (takeRequest l 15 true (ownSetMask l mask) s)

end Sys2Proof.Machine
end

