-- ==== Sys2Proof/Machine/FireCommands.lean ====
section
/-! DEFINITION. The meanings of the fire requests, the hardwired fire input, OPEN_STORE and FAULT_CLEAR (chapter 1). -/

namespace Sys2Proof.Machine

/-- ZONE_ALARM (R5). -/
def execZoneAlarm (l : LinkId) (zone : Nat) (s : State) : Result := .next (takeRequest l 16 true (ownZoneAlarm zone) s)

/-- ZONE_CLEAR (R6). -/
def execZoneClear (l : LinkId) (zone : Nat) (s : State) : Result := .next (takeRequest l 17 true (ownZoneClear zone) s)

/-- GENERAL_ALARM_ON (R7). -/
def execGeneralAlarmOn (l : LinkId) (s : State) : Result := .next (takeRequest l 18 true (ownGeneralAlarm true) s)

/-- GENERAL_ALARM_OFF (R7). -/
def execGeneralAlarmOff (l : LinkId) (s : State) : Result := .next (takeRequest l 18 true (ownGeneralAlarm false) s)

/-- FIRE_SILENCE (R8). -/
def execFireSilence (l : LinkId) (s : State) : Result := .next (takeRequest l 19 true ownFireSilence s)

/-- FIRE_RESTORE (R9). -/
def execFireRestore (l : LinkId) (s : State) : Result := .next (takeRequest l 20 true ownFireRestore s)

/-- FIRE_INPUT_CHANGE (R3): a change of the pin's level begins the 200 ms afresh; the debounced state stays. -/
def execFireInputChange (isOpen : Bool) (s : State) : Result :=
  .next (if s.floors.pinOpen = isOpen then s
    else s.modFloors fun t => { t with pinOpen := isOpen, debounceLeft := some 200 })

/-- The pin has held its level for 200 ms (R3): the debounced state takes it. Before the first such time the debounced state is held
as in alarm, so that a first settling on closed is a change of it: DESIGN CHOICE (notes/assumptions/33.md). -/
def settleFireInput (s : State) : State :=
  let t := s.modFloors fun x => { x with debounceLeft := none, settled := true }
  if s.floors.inputAlarm = s.floors.pinOpen then t else alarmChange (fun x => { x with inputAlarm := x.pinOpen }) t

/-- FIRE_INPUT_DEBOUNCE_END (R3), while a debounce runs. -/
def execFireInputDebounceEnd (s : State) : Result :=
  .next (if s.floors.debounceLeft.isSome then settleFireInput s else s)

/-- OPEN_STORE (R12). -/
def execOpenStore (l : LinkId) (s : State) : Result := .next (takeRequest l 38 true ownOpenStore s)

/-- FAULT_CLEAR (R19). -/
def execFaultClear (l : LinkId) (kind source : Nat) (s : State) : Result :=
  .next (takeRequest l 71 true (ownFaultClear kind source) s)

/-- FAULT_CLEAR_ALL (R19). -/
def execFaultClearAll (l : LinkId) (s : State) : Result := .next (takeRequest l 71 true ownFaultClearAll s)

end Sys2Proof.Machine
end

