-- ==== Sys2Proof/Machine/ChainCommands.lean ====
section
/-! DEFINITION. The meanings of the events of the Chain Tracker (chapter 2). -/

namespace Sys2Proof.Machine

/-- ENCODER_TRANSITION (R24): the new pair is recorded and the change judged from the pair recorded before. -/
def execEncoderTransition (a b : Bool) (s : State) : Result :=
  let t := s.modTracker fun k => { k with encA := a, encB := b }
  .next (match classify s.tracker.encA s.tracker.encB a b with
    | .tick dir => takeTick dir t
    | .invalid => invalidTransition t
    | .unchanged => s)

/-- INDEX_PULSE (R28): ignored without a geometry and in reverse travel. -/
def execIndexPulse (s : State) : Result :=
  .next (if s.store.eng.isSome = true ∧ s.tracker.direction = .forward then
      if s.tracker.referenced then indexChecks s else indexReferences s
    else s)

/-- SPEED_WINDOW_END (R35, R61). -/
def execSpeedWindowEnd (s : State) : Result :=
  .next (judgeWindow (s.modTracker fun k =>
    { k with measuredSpeed := min 65535 (k.windowTicks * 10), windowTicks := 0, windowLeft := 100 }))

/-- QUIET_TIME_EXPIRY (R36): quiet_time has reached 500 ms; with the brake applied a MOVING chain is DEEMED_STILL. -/
def execQuietTimeExpiry (s : State) : Result :=
  let t := s.modTracker fun k => { k with quietTime := 500 }
  .next (if s.drive.released = false ∧ s.tracker.still = false then chainStill t else t)

/-- The chain is deemed still by the 8 s rule while ticks still arrive (R37): STILL_UNCONFIRMED, once for each application. -/
def stillUnconfirmed (s : State) : State :=
  if s.tracker.unconfirmedRaised then s
  else (s.modTracker fun k => { k with unconfirmedRaised := true }) |> raiseFault .stillUnconfirmed 0

/-- BRAKE_APPLIED_8S (R36, R37): brake_applied_time has reached 8,000 ms. STILL_UNCONFIRMED is raised before the shutters and the
drive act on the chain deemed still: DESIGN CHOICE (notes/assumptions/8.md). -/
def execBrakeApplied8s (s : State) : Result :=
  .next (if s.drive.released then s
    else
      let t := s.modTracker fun k => { k with brakeAppliedTime := 8000 }
      let u := if s.tracker.quietTime < 500 then stillUnconfirmed t else t
      if s.tracker.still then u else chainStill u)

end Sys2Proof.Machine
end

