-- ==== Sys2Proof/Machine/DriveCommands.lean ====
section
/-! DEFINITION. The meanings of the paternoster requests and of the drive's own times (chapter 3). -/

namespace Sys2Proof.Machine

/-- PATERNOSTER_START (R45). -/
def execPaternosterStart (l : LinkId) (s : State) : Result := .next (takeRequest l 64 true ownStart s)

/-- One step of the ramp toward a limit (R48, R64). -/
def rampUp (limit : Nat) (s : State) : State :=
  s.modDrive fun d => { d with vRef := min limit (d.vRef + s.rampStep), rampLeft := 10 }

/-- ACCEL_RAMP_STEP (R48, R50): the reference rises in ACCEL, and in LASTRUN entered from ACCEL; in ACCEL it ends in RUN. -/
def execAccelRampStep (s : State) : Result :=
  .next (match s.drive.state with
    | .accel =>
      let t := rampUp s.eng.vRun s
      if t.drive.vRef = s.eng.vRun then enterState .run t else t
    | .lastrun => if s.drive.vRef < s.eng.vRun then rampUp s.eng.vRun s else s
    | _ => s)

/-- A levelled stop is in phase TRAVEL (3.5). -/
def Drive.travelling (d : Drive) : Bool := d.state == .level && d.level.any fun v => v.phase == .travel

/-- LEVEL_PROFILE_EVAL (R54): each 10 ms in phase TRAVEL. -/
def execLevelProfileEval (s : State) : Result :=
  .next (if s.drive.travelling then
      (evalProfile s).modDrive fun d => { d with level := d.level.map fun v => { v with evalLeft := 10 } }
    else s)

/-- PATERNOSTER_STOP (R53). -/
def execPaternosterStop (l : LinkId) (s : State) : Result := .next (takeRequest l 48 true ownStop s)

/-- A fire deadline runs (R57). -/
def Drive.deadlineRuns (d : Drive) : Bool := d.travelling && d.level.any fun v => v.deadline.isSome

/-- FIRE_DEADLINE_EXPIRY (R57). -/
def execFireDeadlineExpiry (s : State) : Result :=
  .next (if s.drive.deadlineRuns then (enterBrake .off .fireDeadline s) |> raiseFault .fireStopUnlevelled 0 else s)

/-- STOP_NOW (R59). -/
def execStopNow (l : LinkId) (s : State) : Result := .next (takeRequest l 65 true ownStopNow s)

/-- HALT_RESET (R63). -/
def execHaltReset (l : LinkId) (s : State) : Result := .next (takeRequest l 67 true ownHaltReset s)

/-- INCH (R64, R65). -/
def execInch (l : LinkId) (direction : Nat) (s : State) : Result := .next (takeRequest l 66 true (ownInch direction) s)

/-- Inching has released the brake (R64). -/
def Drive.inchStarted (d : Drive) : Bool := d.state == .inch && d.inch.any (·.started)

/-- INCH_RAMP_STEP (R64). -/
def execInchRampStep (s : State) : Result := .next (if s.drive.inchStarted then rampUp s.eng.vInch s else s)

/-- INCH_LEASE_EXPIRY (R65). -/
def execInchLeaseExpiry (s : State) : Result := .next (if s.drive.state = .inch then endInching s else s)

end Sys2Proof.Machine
end

