-- ==== Sys2Proof/Machine/ShutterCommands.lean ====
section
/-! DEFINITION. The meanings of the shutter timers and the shutter requests (chapter 4). -/

namespace Sys2Proof.Machine

/-- DROP_TIMER_EXPIRY (R74): a DROPPING shutter whose timer runs is JAMMED. -/
def execDropTimerExpiry (shutter : Nat) (s : State) : Result :=
  .next (match s.shutterState? shutter with
    | some (.dropping (some _)) => jamShutter shutter s
    | _ => s)

/-- TRAVEL_TIMER_EXPIRY (R78): a LOWERING or RAISING shutter is JAMMED. -/
def execTravelTimerExpiry (shutter : Nat) (s : State) : Result :=
  .next (if (s.shutterState? shutter).any ShutterState.powered then jamShutter shutter s else s)

/-- SHUTTER_TEST (R87). -/
def execShutterTest (l : LinkId) (shutter : Nat) (s : State) : Result := .next (takeRequest l 68 true (ownTest shutter) s)

/-- SHUTTER_RAISE (R88). -/
def execShutterRaise (l : LinkId) (shutter : Nat) (s : State) : Result := .next (takeRequest l 69 true (ownRaise shutter) s)

/-- SHUTTER_INHIBIT_ON (R89). -/
def execShutterInhibitOn (l : LinkId) (shutter : Nat) (s : State) : Result :=
  .next (takeRequest l 70 true (ownInhibitOn shutter) s)

/-- SHUTTER_INHIBIT_OFF (R90). -/
def execShutterInhibitOff (l : LinkId) (shutter : Nat) (s : State) : Result :=
  .next (takeRequest l 70 true (ownInhibitOff shutter) s)

end Sys2Proof.Machine
end

