-- ==== Sys2Proof/Machine/BellCommands.lean ====
section
/-! DEFINITION. The meanings of the bell lines' own times and of the bell requests (chapter 5). -/

namespace Sys2Proof.Machine

/-- STROKE_START (R100): the next stroke of the pattern that line `n` sounds. -/
def execStrokeStart (n : Nat) (s : State) : Result := .next (nextStroke n s)

/-- The drive of line `n` is ON (R98). -/
def State.strokeOnLine (s : State) (n : Nat) : Bool := (s.line? n).any (·.drive)

/-- STROKE_END (R98): the stroke of line `n` ends; a stroke left over from an apply on that line number ends first (R121,
notes/assumptions/12.md). -/
def execStrokeEnd (n : Nat) (s : State) : Result :=
  .next (if s.bells.oldTails.any fun t => t.line == n then endOldTail n s
    else if s.strokeOnLine n then judgeStroke n s
    else s)

/-- PATTERN_END (R109): a pattern at its last stroke is complete. -/
def execPatternEnd (n : Nat) (s : State) : Result :=
  .next (match s.activity? n with
    | some (.pattern c) => if c.next? = none then completePattern n c s else s
    | _ => s)

/-- FIRE_RING_STROKE (R100): a ringing line strokes. -/
def execFireRingStroke (n : Nat) (s : State) : Result :=
  .next (match s.activity? n with
    | some (.fire _) => (s.modLine n fun l => { l with activity := .fire 0 }) |> strokeOn n
    | _ => s)

/-- A PENDING entry with no round in progress (R106). -/
def Call.idle (c : Call) : Bool := c.state == .pending && c.roundLines.isNone

/-- CALL_REPEAT_DUE (R106): the entry is due, and its round begins unless a floor is in FIRE. -/
def execCallRepeatDue (callId : Nat) (s : State) : Result :=
  .next (if (s.call? callId).any Call.idle then
      beginRound callId (s.modCall callId fun c => { c with nextDue := some 0 })
    else s)

/-- WRITE_CODE (R102): four stroke counts stand in the frame (11.4). -/
def execWriteCode (l : LinkId) (code count : Nat) (strokes : List Nat) (mask : Word) (s : State) : Result :=
  .next (takeRequest l 42 (strokes.length == 4) (ownWriteCode code count strokes mask) s)

/-- CANCEL_CALL (R116). -/
def execCancelCall (l : LinkId) (callPoint : Nat) (s : State) : Result :=
  .next (takeRequest l 43 true (ownCancelCall callPoint) s)

/-- CLEAR_CALLS (R117). -/
def execClearCalls (l : LinkId) (s : State) : Result := .next (takeRequest l 44 true ownClearCalls s)

end Sys2Proof.Machine
end

