-- ==== Sys2Proof/Machine/ClockCommands.lean ====
section
/-! DEFINITION. The meanings of the store clock's second, the stagger of the closing, and the requests of the clock and the plan
(chapter 6). -/

namespace Sys2Proof.Machine

/-- SECOND_TICK in the clock alone (R122, R123): the count is incremented and wraps, the prescaler starts the next second, whose
length the trim in force gives. -/
def Clock.second (next : Nat) (c : Clock) : Clock :=
  { c with count := (c.count + 1) % 4294967296, prescaler := c.prescaler - c.secondLength, secondLength := next }

/-- SECOND_TICK (R122, R132, R135): a new day is a day change, the wrap among them, and the plan is evaluated. -/
def execSecondTick (s : State) : Result :=
  let t := s.modClock (Clock.second s.nextSecond)
  .next (evaluatePlan (
    if t.clock.count = 0 then wrapDay t
    else if t.clock.count % 86400 = 0 then dayChange t
    else t))

/-- The next position is waited for (R138). -/
def State.waitsPosition (s : State) : Bool := s.plan.status == .running && s.plan.positionWait.isSome

/-- POSITION_WAIT_EXPIRY (R138): the position that is next is taken, and the sequencer looks (R151). -/
def execPositionWaitExpiry (s : State) : Result :=
  .next (if s.waitsPosition then (takePositions 8 s) |> settlePlan |> look else s)

/-- SET_CLOCK (R125). -/
def execSetClock (l : LinkId) (count : Nat) (s : State) : Result := .next (takeRequest l 32 true (ownSetClock count) s)

/-- WRITE_SCHEDULE (R127). -/
def execWriteSchedule (l : LinkId) (weekday closing : Nat) (s : State) : Result :=
  .next (takeRequest l 33 true (ownWriteSchedule weekday closing) s)

/-- WRITE_EXCEPTION (R128). -/
def execWriteException (l : LinkId) (day closing : Nat) (s : State) : Result :=
  .next (takeRequest l 34 true (ownWriteException day closing) s)

/-- WRITE_PLAN (R130): the order stands in one byte for each of 1 to 8 floors (11.4). -/
def execWritePlan (l : LinkId) (w1 w2 stagger : Nat) (order : List Nat) (s : State) : Result :=
  .next (takeRequest l 35 (within 1 8 order.length) (ownWritePlan w1 w2 stagger order) s)

/-- HOLD_CLOSING (R139). -/
def execHoldClosing (l : LinkId) (minutes : Nat) (s : State) : Result :=
  .next (takeRequest l 36 true (ownHoldClosing minutes) s)

/-- CLOSE_NOW (R141). -/
def execCloseNow (l : LinkId) (s : State) : Result := .next (takeRequest l 37 true ownCloseNow s)

end Sys2Proof.Machine
end

