-- ==== Sys2Proof/Machine/AnnounceCommands.lean ====
section
/-! DEFINITION. The meanings of the announcement requests, of a playout's own times and of the player port's events (chapter 7). -/

namespace Sys2Proof.Machine

/-- WRITE_SCRIPT (R145): 1 to 16 phrases stand in the frame (11.4). -/
def execWriteScript (l : LinkId) (slot mask : Nat) (phrases : List Nat) (s : State) : Result :=
  .next (takeRequest l 39 (within 1 16 phrases.length) (ownWriteScript slot mask phrases) s)

/-- QUEUE_ANNOUNCEMENT (R148). -/
def execQueueAnnouncement (l : LinkId) (slot : Nat) (s : State) : Result := .next (takeRequest l 40 true (ownQueue slot) s)

/-- CANCEL_ANNOUNCEMENT (R150). -/
def execCancelAnnouncement (l : LinkId) (slot : Nat) (s : State) : Result :=
  .next (takeRequest l 41 true (ownCancel slot) s)

/-- The phase of the playout, on air or in its tail (7.3). -/
def State.playPhase? (s : State) : Option PlayPhase := s.announce.playout.map (·.phase)

/-- PLAYOUT_LEAD_END (R152): the first phrase is sent. -/
def execPlayoutLeadEnd (s : State) : Result := .next (if s.playPhase? = some .lead then sendPhrase s else s)

/-- PLAYOUT_GAP_END (R152): the next phrase is sent. -/
def execPlayoutGapEnd (s : State) : Result := .next (if s.playPhase? = some .gap then sendPhrase s else s)

/-- PLAYOUT_TAIL_END (R153). -/
def execPlayoutTailEnd (s : State) : Result :=
  .next (match s.announce.playout with
    | some p => if p.phase = .tail then tailEnd p s else s
    | none => s)

/-- A queued EVAC entry waits out its gap (R154). -/
def QueueEntry.gapRuns (q : QueueEntry) : Bool := q.cls == .evac && q.gap.isSome

/-- EVAC_GAP_EXPIRY (R154, R151): the entry is eligible, and the sequencer looks. -/
def execEvacGapExpiry (s : State) : Result :=
  .next (if s.announce.queue.any QueueEntry.gapRuns then
      look (s.modQueue fun qs => qs.map fun q => if q.gapRuns then { q with gap := some 0 } else q)
    else s)

/-- PLAYER_EXCHANGE_END (R157): the word on the port has been exchanged for the status word. -/
def execPlayerExchangeEnd (status : Word) (s : State) : Result :=
  .next (match s.announce.port.outbox with
    | w :: rest => exchangeEnd w status (s.modPort fun p => { p with outbox := rest })
    | [] => s)

/-- The READY line has changed to high (R156, R158). -/
def readyRises (s : State) : State :=
  match s.announce.port.state with
  | .idle => portFault .readyUnexpected s
  | .starting => s.modPort fun p => { p with state := .playing, startTimer := none, phraseTimer := some 60000 }
  | .playing => s
  | .faulted => s.modPort fun p => { p with readyLowTime := 0 }

/-- The READY line has changed to low (R156): a phrase has ended, or an abort. -/
def readyFalls (s : State) : State :=
  match s.announce.port.state with
  | .playing =>
    let t := s.modPort fun p => { p with state := .idle, phraseTimer := none, abortWait := none }
    (if s.announce.port.abortWait.isNone then phraseEnded t else t) |> look
  | _ => s

/-- PLAYER_READY_CHANGE (R156). -/
def execPlayerReadyChange (high : Bool) (s : State) : Result :=
  .next (if s.announce.port.readyHigh = high then s
    else
      let t := s.modPort fun p => { p with readyHigh := high }
      if high then readyRises t else readyFalls t)

/-- ABORT is sent (R156). -/
def sendAbort (s : State) : State := s.modPort fun p => { p with outbox := p.outbox ++ [.abort] }

/-- START_TIMER_EXPIRY (R156): the phrase was sent and never began, so the ABORT cuts none short, and a MISSING that it clocks in is
that phrase's result (R157). -/
def execStartTimerExpiry (s : State) : Result :=
  .next (if s.announce.port.state = .starting then
      portFault .startNotSeen ((sendAbort s).modPort fun p => { p with resultDue := .standing })
    else s)

/-- PHRASE_TIMER_EXPIRY (R156). -/
def execPhraseTimerExpiry (s : State) : Result :=
  .next (if s.announce.port.state = .playing ∧ s.announce.port.abortWait = none then portFault .phraseOverrun (sendAbort s)
    else s)

/-- ABORT_WAIT_EXPIRY (R156). -/
def execAbortWaitExpiry (s : State) : Result :=
  .next (if s.announce.port.state = .playing ∧ s.announce.port.abortWait.isSome = true then portFault .abortNotSeen s else s)

/-- PLAYER_RECOVERY (R158): READY has been low for 1,000 ms. -/
def execPlayerRecovery (s : State) : Result :=
  .next (if s.announce.port.state = .faulted ∧ s.announce.port.readyHigh = false then portRecover s else s)

/-- PLAYER_START_UP_CHECK (R160): 2,000 ms after start-up a port still FAULTED from it raises PLAYER. -/
def execPlayerStartUpCheck (s : State) : Result :=
  .next (if s.announce.port.startUpLeft.isSome then
      let t := s.modPort fun p => { p with startUpLeft := none }
      if s.announce.port.state = .faulted ∧ s.announce.port.faultCause = some .startUp then
        (t.modPort fun p => { p with startUpRaised := true }) |> raiseFault .player 0
      else t
    else s)

end Sys2Proof.Machine
end

