-- ==== Sys2Proof/Machine/LoopCommands.lean ====
section
/-! DEFINITION. The meanings of the field loop's scans and of the analog samples (chapter 8). -/

namespace Sys2Proof.Machine

/-- SCAN_START (R163): while the part is SUPERVISING and no scan runs. -/
def execScanStart (s : State) : Result :=
  .next (if s.supervising = true ∧ s.loop.scan = none then beginScan s else s)

/-- SCAN_END (R163): the scan that runs ends. -/
def execScanEnd (returned : Word) (inputs : List Byte) (s : State) : Result :=
  .next (match s.loop.scan with
    | some sc => finishScan sc returned inputs s
    | none => s)

/-- ANALOG_SAMPLE (R170, R172, R173). -/
def execAnalogSample (samples : List Int) (s : State) : Result := .next (sampleChannels samples s)

/-- ANALOG_BLANKING_END (R171): the channel enters evaluation. -/
def execAnalogBlankingEnd (channel : Nat) (s : State) : Result :=
  .next (s.modChan channel fun c => if c.blanking.isSome then { c with evaluated := true, blanking := none } else c)

end Sys2Proof.Machine
end

