-- ==== Sys2Proof/Machine/ConfigCommands.lean ====
section
/-! DEFINITION. The meanings of the configuration requests and of the steps of a save (chapter 10). -/

namespace Sys2Proof.Machine

/-- CONFIG_BEGIN (R195). -/
def execConfigBegin (l : LinkId) (s : State) : Result := .next (takeRequest l 72 true ownConfigBegin s)

/-- CONFIG_WRITE (R196): 1 to 57 bytes stand in the frame (11.4). -/
def execConfigWrite (l : LinkId) (sect offset : Nat) (bytes : List Byte) (s : State) : Result :=
  .next (takeRequest l 73 (within 1 57 bytes.length) (ownConfigWrite sect offset bytes) s)

/-- CONFIG_ABORT (R197). -/
def execConfigAbort (l : LinkId) (s : State) : Result := .next (takeRequest l 75 true ownConfigAbort s)

/-- CONFIG_END (R198). -/
def execConfigEnd (l : LinkId) (s : State) : Result := .next (takeRequest l 74 true ownConfigEnd s)

/-- CONFIG_SAVE (R199). -/
def execConfigSave (l : LinkId) (s : State) : Result := .next (takeRequest l 49 true ownConfigSave s)

/-- The page after page `k` of a save, or the read-back after the last (R199). -/
def Save.next (k : Nat) (v : Save) : Save :=
  { v with page := if k + 1 < pageCount v.snapshot then some (k + 1) else none, busyLeft := 10 }

/-- SAVE_PAGE_READY (R199): the memory is ready for the next page. -/
def execSavePageReady (s : State) : Result :=
  .next (match s.store.save with
    | some v =>
      match v.page with
      | some k => s.modStore fun st => { st with save := some (v.next k) }
      | none => s
    | none => s)

/-- SAVE_BUSY_TIMEOUT (R199): the page is still busy 10 ms after it was sent. -/
def execSaveBusyTimeout (s : State) : Result :=
  .next (if s.store.save.any fun v => v.page.isSome then saveFails .busyTimeout s else s)

/-- SAVE_READBACK_DONE (R199): the image read back is compared with the snapshot. -/
def execSaveReadbackDone (memory : List Byte) (s : State) : Result :=
  .next (match s.store.save with
    | some v =>
      if v.page.isSome then s
      else if memory.take v.snapshot.length = v.snapshot then saveGood s
      else saveFails .verifyMismatch s
    | none => s)

/-- SAVE_TIME_LIMIT (R199): 2 s have passed since the acceptance. -/
def execSaveTimeLimit (s : State) : Result := .next (if s.store.save.isSome then saveFails .timeLimit s else s)

end Sys2Proof.Machine
end

