-- ==== Sys2Proof/Machine/Dispatch.lean ====
section
/-! DEFINITION. One arm for each command: exec gives its effect on everything but the queue. -/

namespace Sys2Proof.Machine

def exec (i : Instr) (s : State) : Host.Outcome State Fault Refusal :=
  match i with
  | .powerOnReset pins => Sys2Proof.Machine.execPowerOnReset pins s
  | .externalReset pins => Sys2Proof.Machine.execExternalReset pins s
  | .imageReadDone memory => Sys2Proof.Machine.execImageReadDone memory s
  | .loadingTimeout => Sys2Proof.Machine.execLoadingTimeout s
  | .enterSupervising => Sys2Proof.Machine.execEnterSupervising s
  | .requestFrame l frame => Sys2Proof.Machine.execRequestFrame l frame s
  | .interCharacterTimeout l => Sys2Proof.Machine.execInterCharacterTimeout l s
  | .replyDue l => Sys2Proof.Machine.execReplyDue l s
  | .replyLeadEnd l => Sys2Proof.Machine.execReplyLeadEnd l s
  | .replySendDone l => Sys2Proof.Machine.execReplySendDone l s
  | .replyTailEnd l => Sys2Proof.Machine.execReplyTailEnd l s
  | .linkSupervisionExpiry l => Sys2Proof.Machine.execLinkSupervisionExpiry l s
  | .attentionHoldoffEnd l => Sys2Proof.Machine.execAttentionHoldoffEnd l s
  | .readFloors l part => Sys2Proof.Machine.execReadFloors l part s
  | .readZones l part => Sys2Proof.Machine.execReadZones l part s
  | .readPaternoster l part => Sys2Proof.Machine.execReadPaternoster l part s
  | .readShutters l first => Sys2Proof.Machine.execReadShutters l first s
  | .readCalls l first => Sys2Proof.Machine.execReadCalls l first s
  | .readBellLines l line => Sys2Proof.Machine.execReadBellLines l line s
  | .readQueue l part slot => Sys2Proof.Machine.execReadQueue l part slot s
  | .readFaults l first => Sys2Proof.Machine.execReadFaults l first s
  | .readClock l => Sys2Proof.Machine.execReadClock l s
  | .readPlan l part => Sys2Proof.Machine.execReadPlan l part s
  | .readAnalog l part => Sys2Proof.Machine.execReadAnalog l part s
  | .readLink l clear => Sys2Proof.Machine.execReadLink l clear s
  | .readEvents l => Sys2Proof.Machine.execReadEvents l s
  | .ackEvents l set => Sys2Proof.Machine.execAckEvents l set s
  | .setEventMask l mask => Sys2Proof.Machine.execSetEventMask l mask s
  | .zoneAlarm l zone => Sys2Proof.Machine.execZoneAlarm l zone s
  | .zoneClear l zone => Sys2Proof.Machine.execZoneClear l zone s
  | .generalAlarmOn l => Sys2Proof.Machine.execGeneralAlarmOn l s
  | .generalAlarmOff l => Sys2Proof.Machine.execGeneralAlarmOff l s
  | .fireSilence l => Sys2Proof.Machine.execFireSilence l s
  | .fireRestore l => Sys2Proof.Machine.execFireRestore l s
  | .fireInputChange isOpen => Sys2Proof.Machine.execFireInputChange isOpen s
  | .fireInputDebounceEnd => Sys2Proof.Machine.execFireInputDebounceEnd s
  | .openStore l => Sys2Proof.Machine.execOpenStore l s
  | .faultClear l kind source => Sys2Proof.Machine.execFaultClear l kind source s
  | .faultClearAll l => Sys2Proof.Machine.execFaultClearAll l s
  | .encoderTransition a b => Sys2Proof.Machine.execEncoderTransition a b s
  | .indexPulse => Sys2Proof.Machine.execIndexPulse s
  | .speedWindowEnd => Sys2Proof.Machine.execSpeedWindowEnd s
  | .quietTimeExpiry => Sys2Proof.Machine.execQuietTimeExpiry s
  | .brakeApplied8s => Sys2Proof.Machine.execBrakeApplied8s s
  | .paternosterStart l => Sys2Proof.Machine.execPaternosterStart l s
  | .accelRampStep => Sys2Proof.Machine.execAccelRampStep s
  | .levelProfileEval => Sys2Proof.Machine.execLevelProfileEval s
  | .paternosterStop l => Sys2Proof.Machine.execPaternosterStop l s
  | .fireDeadlineExpiry => Sys2Proof.Machine.execFireDeadlineExpiry s
  | .stopNow l => Sys2Proof.Machine.execStopNow l s
  | .haltReset l => Sys2Proof.Machine.execHaltReset l s
  | .inch l direction => Sys2Proof.Machine.execInch l direction s
  | .inchRampStep => Sys2Proof.Machine.execInchRampStep s
  | .inchLeaseExpiry => Sys2Proof.Machine.execInchLeaseExpiry s
  | .dropTimerExpiry shutter => Sys2Proof.Machine.execDropTimerExpiry shutter s
  | .travelTimerExpiry shutter => Sys2Proof.Machine.execTravelTimerExpiry shutter s
  | .shutterTest l shutter => Sys2Proof.Machine.execShutterTest l shutter s
  | .shutterRaise l shutter => Sys2Proof.Machine.execShutterRaise l shutter s
  | .shutterInhibitOn l shutter => Sys2Proof.Machine.execShutterInhibitOn l shutter s
  | .shutterInhibitOff l shutter => Sys2Proof.Machine.execShutterInhibitOff l shutter s
  | .strokeStart line => Sys2Proof.Machine.execStrokeStart line s
  | .strokeEnd line => Sys2Proof.Machine.execStrokeEnd line s
  | .patternEnd line => Sys2Proof.Machine.execPatternEnd line s
  | .fireRingStroke line => Sys2Proof.Machine.execFireRingStroke line s
  | .callRepeatDue callId => Sys2Proof.Machine.execCallRepeatDue callId s
  | .writeCode l code count strokes mask => Sys2Proof.Machine.execWriteCode l code count strokes mask s
  | .cancelCall l callPoint => Sys2Proof.Machine.execCancelCall l callPoint s
  | .clearCalls l => Sys2Proof.Machine.execClearCalls l s
  | .secondTick => Sys2Proof.Machine.execSecondTick s
  | .positionWaitExpiry => Sys2Proof.Machine.execPositionWaitExpiry s
  | .setClock l count => Sys2Proof.Machine.execSetClock l count s
  | .writeSchedule l weekday closing => Sys2Proof.Machine.execWriteSchedule l weekday closing s
  | .writeException l day closing => Sys2Proof.Machine.execWriteException l day closing s
  | .writePlan l w1 w2 stagger order => Sys2Proof.Machine.execWritePlan l w1 w2 stagger order s
  | .holdClosing l minutes => Sys2Proof.Machine.execHoldClosing l minutes s
  | .closeNow l => Sys2Proof.Machine.execCloseNow l s
  | .writeScript l slot mask phrases => Sys2Proof.Machine.execWriteScript l slot mask phrases s
  | .queueAnnouncement l slot => Sys2Proof.Machine.execQueueAnnouncement l slot s
  | .cancelAnnouncement l slot => Sys2Proof.Machine.execCancelAnnouncement l slot s
  | .playoutLeadEnd => Sys2Proof.Machine.execPlayoutLeadEnd s
  | .playoutGapEnd => Sys2Proof.Machine.execPlayoutGapEnd s
  | .playoutTailEnd => Sys2Proof.Machine.execPlayoutTailEnd s
  | .evacGapExpiry => Sys2Proof.Machine.execEvacGapExpiry s
  | .playerExchangeEnd status => Sys2Proof.Machine.execPlayerExchangeEnd status s
  | .playerReadyChange high => Sys2Proof.Machine.execPlayerReadyChange high s
  | .startTimerExpiry => Sys2Proof.Machine.execStartTimerExpiry s
  | .phraseTimerExpiry => Sys2Proof.Machine.execPhraseTimerExpiry s
  | .abortWaitExpiry => Sys2Proof.Machine.execAbortWaitExpiry s
  | .playerRecovery => Sys2Proof.Machine.execPlayerRecovery s
  | .playerStartUpCheck => Sys2Proof.Machine.execPlayerStartUpCheck s
  | .scanStart => Sys2Proof.Machine.execScanStart s
  | .scanEnd returned inputs => Sys2Proof.Machine.execScanEnd returned inputs s
  | .analogSample samples => Sys2Proof.Machine.execAnalogSample samples s
  | .analogBlankingEnd channel => Sys2Proof.Machine.execAnalogBlankingEnd channel s
  | .configBegin l => Sys2Proof.Machine.execConfigBegin l s
  | .configWrite l sect offset bytes => Sys2Proof.Machine.execConfigWrite l sect offset bytes s
  | .configAbort l => Sys2Proof.Machine.execConfigAbort l s
  | .configEnd l => Sys2Proof.Machine.execConfigEnd l s
  | .configSave l => Sys2Proof.Machine.execConfigSave l s
  | .savePageReady => Sys2Proof.Machine.execSavePageReady s
  | .saveBusyTimeout => Sys2Proof.Machine.execSaveBusyTimeout s
  | .saveReadbackDone memory => Sys2Proof.Machine.execSaveReadbackDone memory s
  | .saveTimeLimit => Sys2Proof.Machine.execSaveTimeLimit s
  | .characterReceived l mark byte stopOk => Sys2Proof.Machine.execCharacterReceived l mark byte stopOk s
  | .lineStartBitSeen l => Sys2Proof.Machine.execLineStartBitSeen l s

end Sys2Proof.Machine
end

