-- ==== Sys2Proof/Machine/Idle.lean ====
section
/-! DEFINITION. The part's own time base where no command waits: the commands that are the ends of the part's own times and have
fallen due, and what one millisecond changes. DESIGN CHOICE (notes/assumptions/2.md): an empty queue gives the next due command
of a fixed order, and where none is due one millisecond passes. Commands that bring data from outside (a frame, a character, a
scan's return, a sample, a level) never come of themselves, nor do those timed in less than a millisecond. -/

namespace Sys2Proof.Machine

/-! ### Commands that are due -/

/-- A command where a condition holds. -/
def due (c : Bool) (i : Instr) : List Instr := if c then [i] else []

/-- Start-up's and a save's own times (R192, R193, R199). -/
def dueStore (t : Store) (settled : Bool) : List Instr :=
  due (t.state == .loading && t.loaded.isSome && (settled || 400 ≤ t.sinceReset)) .enterSupervising
    ++ due (t.state == .loading && t.loaded.isNone && 400 ≤ t.sinceReset) .loadingTimeout
    ++ due (t.save.any fun v => v.page.isSome && v.busyLeft == 0) .saveBusyTimeout
    ++ due (t.save.any fun v => v.limitLeft == 0) .saveTimeLimit

/-- A link's own times (R184, R188). -/
def dueLink (s : State) (l : LinkId) : List Instr :=
  due ((s.link l).attention == .holdoff 0) (.attentionHoldoffEnd l)
    ++ due (s.supervised l && (s.link l).state != .lost && (s.linkCfg l).supervision * 1000 ≤ (s.link l).sinceFrame)
      (.linkSupervisionExpiry l)

/-- The tracker's and the drive's own times (R35 to R37, R48, R54, R57, R64, R65). -/
def dueDrive (s : State) : List Instr :=
  let k := s.tracker
  let d := s.drive
  let ramps := d.state == .accel || (d.state == .lastrun && d.vRef < s.eng.vRun)
  due (k.windowLeft == 0) .speedWindowEnd
    ++ due (!d.released && !k.still && 500 ≤ k.quietTime) .quietTimeExpiry
    ++ due (!d.released && !k.still && 8000 ≤ k.brakeAppliedTime) .brakeApplied8s
    ++ due (ramps && d.rampLeft == 0) .accelRampStep
    ++ due (d.travelling && d.level.any fun v => v.evalLeft == 0) .levelProfileEval
    ++ due (d.deadlineRuns && d.level.any fun v => v.deadline == some 0) .fireDeadlineExpiry
    ++ due (d.inchStarted && d.rampLeft == 0) .inchRampStep
    ++ due (d.state == .inch && d.inch.any fun i => i.lease == 0) .inchLeaseExpiry

/-- A shutter's own times (R74, R78). -/
def dueShutter (i : Nat) (sh : Shutter) : List Instr :=
  match sh.state with
  | .dropping (some 0) => [.dropTimerExpiry i]
  | .lowering 0 | .raising 0 => [.travelTimerExpiry i]
  | _ => []

/-- A bell line's own times (R98, R100). -/
def dueLine (l : Line) : List Instr :=
  due (l.drive && l.strokeLeft == 0) (.strokeEnd l.num)
    ++ (match l.activity with
        | .pattern c =>
          if c.next?.isSome then due (c.gap ≤ c.sinceStroke) (.strokeStart l.num)
          else due (2000 ≤ c.sinceStroke) (.patternEnd l.num)
        | .fire t => due (300 ≤ t) (.fireRingStroke l.num)
        | .idle | .tail => [])

/-- The bells' own times (R98, R100, R106, R121). -/
def dueBells (s : State) : List Instr :=
  s.bells.oldTails.flatMap (fun t => due (t.left == 0) (.strokeEnd t.line))
    ++ s.bells.lines.flatMap dueLine
    ++ s.bells.calls.flatMap fun c =>
        due (c.idle && c.nextDue == some 0 && !s.firePresent) (.callRepeatDue c.callId)

/-- The clock's and the planner's own times (R122, R138). -/
def dueClock (s : State) : List Instr :=
  due (s.clock.secondLength ≤ s.clock.prescaler) .secondTick
    ++ due (s.waitsPosition && s.plan.positionWait == some 0) .positionWaitExpiry

/-- The sequencer's and the port's own times (R152 to R160). -/
def dueAnnounce (s : State) : List Instr :=
  let a := s.announce
  let p := a.port
  let out := a.playout.any fun x => x.timer == 0
  due (out && s.playPhase? == some .lead && p.state == .idle) .playoutLeadEnd
    ++ due (out && s.playPhase? == some .gap && p.state == .idle) .playoutGapEnd
    ++ due (out && s.playPhase? == some .tail) .playoutTailEnd
    ++ due (a.playout.isNone && p.state == .idle && a.queue.any fun q => q.gapRuns && q.gap == some 0) .evacGapExpiry
    ++ due (p.state == .starting && p.startTimer == some 0) .startTimerExpiry
    ++ due (p.state == .playing && p.abortWait.isNone && p.phraseTimer == some 0) .phraseTimerExpiry
    ++ due (p.state == .playing && p.abortWait == some 0) .abortWaitExpiry
    ++ due (p.state == .faulted && !p.readyHigh && 1000 ≤ p.readyLowTime) .playerRecovery
    ++ due (p.startUpLeft == some 0) .playerStartUpCheck

/-- The field loop's and the analog monitor's own times (R163, R171). -/
def dueLoop (s : State) : List Instr :=
  due (s.supervising && s.loop.scan.isNone && s.loop.scanLeft == 0) .scanStart
    ++ s.analog.zipIdx.flatMap fun (c, i) => due (c.blanking == some 0) (.analogBlankingEnd i)

/-- Every command that is due, in the model's order. -/
def dueCommands (s : State) : List Instr :=
  dueStore s.store s.floors.settled
    ++ due (s.floors.debounceLeft == some 0) .fireInputDebounceEnd
    ++ dueLink s .F ++ dueLink s .O ++ dueLink s .E
    ++ dueDrive s
    ++ s.shutters.table.zipIdx.flatMap (fun (sh, i) => dueShutter i sh)
    ++ dueBells s ++ dueClock s ++ dueAnnounce s ++ dueLoop s

/-! ### One millisecond -/

/-- A time left, one millisecond later. -/
def less (t : Option Nat) : Option Nat := t.map (· - 1)

/-- R3. -/
def Floors.ms (t : Floors) : Floors := { t with debounceLeft := less t.debounceLeft }

/-- R35, R36. -/
def Tracker.ms (released : Bool) (k : Tracker) : Tracker :=
  { k with windowLeft := k.windowLeft - 1, quietTime := min 500 (k.quietTime + 1)
           brakeAppliedTime := if released then 0 else min 8000 (k.brakeAppliedTime + 1) }

/-- The levelled stop's times run in phase TRAVEL (R54, R57). -/
def LevelRec.ms (v : LevelRec) : LevelRec :=
  if v.phase = .travel then { v with evalLeft := v.evalLeft - 1, deadline := less v.deadline } else v

/-- R41, R48, R61, R65. -/
def Drive.ms (d : Drive) : Drive :=
  { d with rampLeft := d.rampLeft - 1
           sinceRelease := if d.wasReleased then min 1000 (d.sinceRelease + 1) else d.sinceRelease
           level := d.level.map LevelRec.ms
           inch := d.inch.map fun i => { i with lease := i.lease - 1 } }

/-- R74, R78. -/
def Shutter.ms (sh : Shutter) : Shutter :=
  match sh.state with
  | .dropping t => { sh with state := .dropping (less t) }
  | .lowering t => { sh with state := .lowering (t - 1) }
  | .raising t => { sh with state := .raising (t - 1) }
  | _ => sh

/-- R74, R78, R94. -/
def Shutters.ms (t : Shutters) : Shutters :=
  { t with table := t.table.map Shutter.ms
           slots := t.slots.map fun g => g.map fun x => { x with elapsed := x.elapsed + 1 } }

/-- R97, R98, R100. -/
def Line.ms (l : Line) : Line :=
  { l with strokeLeft := l.strokeLeft - 1
           activity := match l.activity with
             | .pattern c => .pattern { c with sinceStroke := c.sinceStroke + 1, elapsed := c.elapsed + 1 }
             | .fire t => .fire (t + 1)
             | a => a }

/-- R104: next_due stops at 0. -/
def Bells.ms (b : Bells) : Bells :=
  { b with lines := b.lines.map Line.ms
           calls := b.calls.map fun c => { c with nextDue := less c.nextDue }
           oldTails := b.oldTails.map fun t => { t with left := t.left - 1 } }

/-- R122: a millisecond is 4096/125 periods of the crystal. -/
def Clock.ms (c : Clock) : Clock :=
  { c with prescaler := c.prescaler + (c.periodPart + 4096) / 125, periodPart := (c.periodPart + 4096) % 125 }

/-- R138. -/
def Plan.ms (p : Plan) : Plan := { p with positionWait := less p.positionWait }

/-- The timers started by a word run from the end of its exchange (R156); ready_low_time counts in FAULTED while READY is low
(R158). -/
def Port.ms (p : Port) : Port :=
  { p with startTimer := if p.outbox.isEmpty then less p.startTimer else p.startTimer
           phraseTimer := less p.phraseTimer
           abortWait := if p.outbox.isEmpty then less p.abortWait else p.abortWait
           readyLowTime := if p.state = .faulted ∧ p.readyHigh = false then min 1000 (p.readyLowTime + 1) else p.readyLowTime
           startUpLeft := less p.startUpLeft }

/-- R152 to R154. -/
def Announce.ms (a : Announce) : Announce :=
  { a with queue := a.queue.map fun q => { q with gap := less q.gap }
           playout := a.playout.map fun p => { p with timer := p.timer - 1 }
           port := a.port.ms }

/-- R163. -/
def Loop.ms (lp : Loop) : Loop := { lp with scanLeft := lp.scanLeft - 1 }

/-- R171. -/
def Chan.ms (c : Chan) : Chan := { c with blanking := less c.blanking }

/-- R184, R188; the time since a frame counts as far as the longest supervision time. -/
def Link.ms (k : Link) : Link :=
  { k with sinceFrame := min 120000 (k.sinceFrame + 1)
           attention := match k.attention with
             | .holdoff n => .holdoff (n - 1)
             | a => a }

/-- R192, R199. -/
def Store.ms (t : Store) : Store :=
  { t with sinceReset := min 400 (t.sinceReset + 1)
           save := t.save.map fun v => { v with busyLeft := v.busyLeft - 1, limitLeft := v.limitLeft - 1 } }

/-- One millisecond of the part's own time base; the queue of commands stays. -/
def advance (s : State) : State where
  floors := s.floors.ms
  faults := s.faults
  tracker := s.tracker.ms s.drive.released
  drive := s.drive.ms
  shutters := s.shutters.ms
  bells := s.bells.ms
  clock := s.clock.ms
  plan := s.plan.ms
  announce := s.announce.ms
  loop := s.loop.ms
  analog := s.analog.map Chan.ms
  links := s.links.map Link.ms
  store := s.store.ms
  pending := s.pending

end Sys2Proof.Machine
end

