-- ==== Sys2Proof/Machine/Step.lean ====
section
/-! DEFINITION. One step: the command at the front of the queue, or what the part's own time base brings where none waits. -/

namespace Sys2Proof.Machine

/-- The command that a table word spells goes to the front of the queue; a word that spells none changes nothing. -/
def State.withFetchWord (s : State) (nbits w : Nat) : State :=
  match decodeTableWord nbits w with
  | some c => { s with pending := c :: s.pending }
  | none => s

/-- Where no command waits: the first command of the part's own times that is due, and otherwise one millisecond passes. DESIGN
CHOICE (notes/assumptions/2.md). -/
def idle (s : State) : Host.Outcome State Fault Refusal :=
  match dueCommands s with
  | c :: _ => exec c s
  | [] => .next (advance s)

/-- One step: exec of the command at the front, on the queue's rest; on an empty queue the part's own time base runs. -/
def step (s : State) : Host.Outcome State Fault Refusal :=
  match s.pending with
  | c :: rest => exec c { s with pending := rest }
  | [] => idle s

end Sys2Proof.Machine
end

