-- ==== Sys2Proof/WellFormed.lean ====
section
/-! DEFINITION. Which commands can arise: a number that a master sends fits its field of 11.4, a list fits the frame (R178), and
what the pins and the plant bring has the width the spec gives it. A well-formed request may still be refused by its owner.
Also which engineering and operating parts fit the image's fields. -/

namespace Sys2Proof

/-- A number that fits one byte (11.4). -/
def fits1 (n : Nat) : Bool := n < 256

/-- A number that fits two bytes (11.4). -/
def fits2 (n : Nat) : Bool := n < 65536

/-- A number that fits four bytes (11.4). -/
def fits4 (n : Nat) : Bool := n < 4294967296

/-- The straps have five address pins and two rate pins for each link (R176). -/
def Pins.wf (p : Pins) : Bool := p.address < 32 && p.rateF < 4 && p.rateO < 4 && p.rateE < 4

/-- The memory holds 8 KiB (chapter 10). -/
def memoryFits (bs : List Byte) : Bool := bs.length ≤ 8192

/-- The command can arise. -/
def Instr.wf (i : Instr) : Bool :=
  match i with
  | .powerOnReset pins | .externalReset pins => pins.wf
  | .imageReadDone memory | .saveReadbackDone memory => memoryFits memory
  | .requestFrame _ frame => 4 ≤ frame.length && frame.length ≤ 64
  | .readFloors _ n | .readZones _ n | .readPaternoster _ n | .readShutters _ n | .readCalls _ n | .readBellLines _ n
  | .readFaults _ n | .readPlan _ n | .readAnalog _ n | .readLink _ n | .zoneAlarm _ n | .zoneClear _ n | .inch _ n
  | .shutterTest _ n | .shutterRaise _ n | .shutterInhibitOn _ n | .shutterInhibitOff _ n | .cancelCall _ n
  | .holdClosing _ n | .queueAnnouncement _ n | .cancelAnnouncement _ n => fits1 n
  | .readQueue _ part slot => fits1 part && fits1 slot
  | .faultClear _ kind source => fits1 kind && fits1 source
  | .dropTimerExpiry shutter | .travelTimerExpiry shutter => shutter < 32
  | .strokeStart line | .strokeEnd line | .patternEnd line | .fireRingStroke line => line ≤ 8
  | .callRepeatDue callId => 1 ≤ callId && fits2 callId
  | .writeCode _ code count strokes _ => fits1 code && fits1 count && strokes.length == 4 && strokes.all fits1
  | .setClock _ count => fits4 count
  | .writeSchedule _ weekday closing => fits1 weekday && fits4 closing
  | .writeException _ day closing => fits4 day && fits4 closing
  | .writePlan _ w1 w2 stagger order =>
    fits1 w1 && fits1 w2 && fits2 stagger && order.length ≤ 56 && order.all fits1
  | .writeScript _ slot mask phrases => fits1 slot && fits1 mask && phrases.length ≤ 29 && phrases.all fits2
  | .scanEnd _ inputs => inputs.length ≤ 24
  | .analogSample samples => samples.length == 6
  | .analogBlankingEnd channel => channel < 6
  | .configWrite _ sect offset bytes => fits1 sect && fits2 offset && bytes.length ≤ 57
  | .loadingTimeout | .enterSupervising | .interCharacterTimeout _ | .replyDue _ | .replyLeadEnd _ | .replySendDone _
  | .replyTailEnd _ | .linkSupervisionExpiry _ | .attentionHoldoffEnd _ | .readClock _ | .readEvents _ | .ackEvents _ _
  | .setEventMask _ _ | .generalAlarmOn _ | .generalAlarmOff _ | .fireSilence _ | .fireRestore _ | .fireInputChange _
  | .fireInputDebounceEnd | .openStore _ | .faultClearAll _ | .encoderTransition _ _ | .indexPulse | .speedWindowEnd
  | .quietTimeExpiry | .brakeApplied8s | .paternosterStart _ | .accelRampStep | .levelProfileEval | .paternosterStop _
  | .fireDeadlineExpiry | .stopNow _ | .haltReset _ | .inchRampStep | .inchLeaseExpiry | .clearCalls _ | .secondTick
  | .positionWaitExpiry | .closeNow _ | .playoutLeadEnd | .playoutGapEnd | .playoutTailEnd | .evacGapExpiry
  | .playerExchangeEnd _ | .playerReadyChange _ | .startTimerExpiry | .phraseTimerExpiry | .abortWaitExpiry
  | .playerRecovery | .playerStartUpCheck | .scanStart | .configBegin _ | .configAbort _ | .configEnd _ | .configSave _
  | .savePageReady | .saveBusyTimeout | .saveTimeLimit | .characterReceived _ _ _ _ | .lineStartBitSeen _ => true

/-! ### Parts that the image can hold (11.7) -/

/-- A list of one-byte fields. -/
def list1 (n : Nat) (xs : List Nat) : Bool := xs.length == n && xs.all fits1

/-- A shutter record that the image can hold. -/
def ShutterCfg.fits (c : ShutterCfg) : Bool :=
  [c.floor, c.kind, c.side, c.tDrop, c.tTravel, c.openPt, c.closedPt, c.holdPt, c.upPt, c.downPt].all fits1 && fits2 c.zoneMask

/-- A link's times that the image can hold. -/
def LinkCfg.fits (c : LinkCfg) : Bool := [c.supervision, c.lead, c.tail].all fits1

/-- A channel that the image can hold. -/
def ChanCfg.fits (c : ChanCfg) : Bool := fits2 c.low && fits2 c.high && fits1 c.k && fits1 c.h

/-- Every list of the engineering part has its length, and every field fits its width (11.7). -/
def Eng.fits (e : Eng) : Bool :=
  [e.floorCount, e.cars, e.fireDeadline, e.reversePt, e.slotCount, e.shutterCount, e.nRepeat, e.callCount, e.modules,
      e.epoch].all fits1
    && [e.pitch, e.phase, e.slip, e.vRun, e.vCreep, e.vFull, e.vInch, e.accel, e.levelTol, e.tRepeat].all fits2
    && list1 16 e.zoneFloors && list1 16 e.lamps && list1 8 e.speakers && list1 16 e.trips
    && e.landings.length == 16 && e.landings.all fits4
    && e.shutters.length == 32 && e.shutters.all ShutterCfg.fits
    && e.callPoints.length == 64 && (e.callPoints.all fun c => fits1 c.input && fits1 c.floor && fits1 c.code)
    && e.lines.length == 9 && (e.lines.all fun c => fits1 c.drive && fits1 c.sense && fits1 c.answer)
    && e.linkF.fits && e.linkO.fits && e.linkE.fits && e.analog.length == 6 && e.analog.all ChanCfg.fits
    && -128 ≤ e.trim && e.trim ≤ 127

/-- A closing that the image can hold: NONE is all ones (11.2). -/
def closingFits : Option Nat → Bool
  | some c => c < 4294967295
  | none => true

/-- An operating part that the image can hold, with an order of `floors` places (11.7). -/
def Op.fits (floors : Nat) (o : Op) : Bool :=
  o.schedule.length == 7 && o.schedule.all closingFits
    && o.exceptions.length ≤ 16 && (o.exceptions.all fun x => fits4 x.day && closingFits x.closing)
    && fits1 o.w1 && fits1 o.w2 && fits2 o.stagger && o.order.length == floors && floors ≤ 8 && o.order.all fits1
    && o.codes.length == 31 && (o.codes.all fun c => c.groups.length ≤ 4 && c.groups.all fits1 && fits2 c.mask)
    && o.scripts.length == 8 && o.scripts.all fun c => c.all fun c =>
      1 ≤ c.phrases.length && c.phrases.length ≤ 16 && c.phrases.all fits2 && fits1 c.mask

end Sys2Proof
end

