-- ==== Sys2Proof/Machine/Frames.lean ====
section
/-! DEFINITION. The frame that a master sends for a request (R177, R179, 11.4): LEN, KIND, the payload and the two CRC bytes. The
machine does not use it; statements about requests do. -/

namespace Sys2Proof

open Machine

/-- The link, the KIND and the payload of a command that is a request (11.4); none for the others. -/
def Instr.request? (i : Instr) : Option (LinkId × Nat × List Byte) :=
  match i with
  | .readFloors l part => some (l, 1, be 1 part)
  | .readZones l part => some (l, 2, be 1 part)
  | .readPaternoster l part => some (l, 3, be 1 part)
  | .readShutters l first => some (l, 4, be 1 first)
  | .readCalls l first => some (l, 5, be 1 first)
  | .readBellLines l line => some (l, 6, be 1 line)
  | .readQueue l part slot => some (l, 7, be 1 part ++ be 1 slot)
  | .readFaults l first => some (l, 8, be 1 first)
  | .readClock l => some (l, 9, [])
  | .readPlan l part => some (l, 10, be 1 part)
  | .readAnalog l part => some (l, 11, be 1 part)
  | .readLink l clear => some (l, 12, be 1 clear)
  | .readEvents l => some (l, 13, [])
  | .ackEvents l set => some (l, 14, be 2 set.toNat)
  | .setEventMask l mask => some (l, 15, be 2 mask.toNat)
  | .zoneAlarm l zone => some (l, 16, be 1 zone)
  | .zoneClear l zone => some (l, 17, be 1 zone)
  | .generalAlarmOn l => some (l, 18, be 1 1)
  | .generalAlarmOff l => some (l, 18, be 1 0)
  | .fireSilence l => some (l, 19, [])
  | .fireRestore l => some (l, 20, [])
  | .setClock l count => some (l, 32, be 4 count)
  | .writeSchedule l weekday closing => some (l, 33, be 1 weekday ++ be 4 closing)
  | .writeException l day closing => some (l, 34, be 4 day ++ be 4 closing)
  | .writePlan l w1 w2 stagger order => some (l, 35, be 1 w1 ++ be 1 w2 ++ be 2 stagger ++ order.flatMap (be 1))
  | .holdClosing l minutes => some (l, 36, be 1 minutes)
  | .closeNow l => some (l, 37, [])
  | .openStore l => some (l, 38, [])
  | .writeScript l slot mask phrases => some (l, 39, be 1 slot ++ be 1 mask ++ phrases.flatMap (be 2))
  | .queueAnnouncement l slot => some (l, 40, be 1 slot)
  | .cancelAnnouncement l slot => some (l, 41, be 1 slot)
  | .writeCode l code count strokes mask =>
    some (l, 42, be 1 code ++ be 1 count ++ strokes.flatMap (be 1) ++ be 2 mask.toNat)
  | .cancelCall l callPoint => some (l, 43, be 1 callPoint)
  | .clearCalls l => some (l, 44, [])
  | .paternosterStop l => some (l, 48, [])
  | .configSave l => some (l, 49, [])
  | .paternosterStart l => some (l, 64, [])
  | .stopNow l => some (l, 65, [])
  | .inch l direction => some (l, 66, be 1 direction)
  | .haltReset l => some (l, 67, [])
  | .shutterTest l shutter => some (l, 68, be 1 shutter)
  | .shutterRaise l shutter => some (l, 69, be 1 shutter)
  | .shutterInhibitOn l shutter => some (l, 70, be 1 shutter ++ be 1 1)
  | .shutterInhibitOff l shutter => some (l, 70, be 1 shutter ++ be 1 0)
  | .faultClear l kind source => some (l, 71, be 1 kind ++ be 1 source)
  | .faultClearAll l => some (l, 71, be 1 255 ++ be 1 0)
  | .configBegin l => some (l, 72, [])
  | .configWrite l sect offset bytes => some (l, 73, be 1 sect ++ be 2 offset ++ bytes)
  | .configEnd l => some (l, 74, [])
  | .configAbort l => some (l, 75, [])
  | .powerOnReset _ | .externalReset _ | .imageReadDone _ | .loadingTimeout | .enterSupervising | .requestFrame _ _
  | .interCharacterTimeout _ | .replyDue _ | .replyLeadEnd _ | .replySendDone _ | .replyTailEnd _
  | .linkSupervisionExpiry _ | .attentionHoldoffEnd _ | .fireInputChange _ | .fireInputDebounceEnd
  | .encoderTransition _ _ | .indexPulse | .speedWindowEnd | .quietTimeExpiry | .brakeApplied8s | .accelRampStep
  | .levelProfileEval | .fireDeadlineExpiry | .inchRampStep | .inchLeaseExpiry | .dropTimerExpiry _ | .travelTimerExpiry _
  | .strokeStart _ | .strokeEnd _ | .patternEnd _ | .fireRingStroke _ | .callRepeatDue _ | .secondTick
  | .positionWaitExpiry | .playoutLeadEnd | .playoutGapEnd | .playoutTailEnd | .evacGapExpiry | .playerExchangeEnd _
  | .playerReadyChange _ | .startTimerExpiry | .phraseTimerExpiry | .abortWaitExpiry | .playerRecovery
  | .playerStartUpCheck | .scanStart | .scanEnd _ _ | .analogSample _ | .analogBlankingEnd _ | .savePageReady
  | .saveBusyTimeout | .saveReadbackDone _ | .saveTimeLimit | .characterReceived _ _ _ _ | .lineStartBitSeen _ => none

/-- The characters after the address character of a request frame (R177, R179). -/
def frameBytes (kind : Nat) (payload : List Byte) : List Byte :=
  let body := be 1 payload.length ++ be 1 kind ++ payload
  body ++ crcBytes body

end Sys2Proof
end

