-- ==== Sys2Proof/Safety.lean ====
section
/-! DEFINITION. The terms in which statements about the part are made: what stays unchanged, how a request is taken and answered,
and the invariants that a safe run keeps. -/

namespace Sys2Proof.Machine

/-! ### What stays unchanged -/

/-- The blocks of the state, the queue of commands apart. -/
inductive Block where
  | floors
  | faults
  | tracker
  | drive
  | shutters
  | bells
  | clock
  | plan
  | announce
  | loop
  | analog
  | links
  | store
deriving DecidableEq, Repr

/-- A block of two states is the same. -/
def Block.same (b : Block) (s t : State) : Prop :=
  match b with
  | .floors => t.floors = s.floors
  | .faults => t.faults = s.faults
  | .tracker => t.tracker = s.tracker
  | .drive => t.drive = s.drive
  | .shutters => t.shutters = s.shutters
  | .bells => t.bells = s.bells
  | .clock => t.clock = s.clock
  | .plan => t.plan = s.plan
  | .announce => t.announce = s.announce
  | .loop => t.loop = s.loop
  | .analog => t.analog = s.analog
  | .links => t.links = s.links
  | .store => t.store = s.store

/-- From `s` to `t` every block is unchanged but those listed, and so is the queue of commands. -/
def State.keepsAllBut (s : State) (changed : List Block) (t : State) : Prop :=
  t.pending = s.pending ∧ ∀ b, b ∈ changed ∨ b.same s t

/-- A link keeps everything but its latches, its companions and its attention line (R186, R188). -/
def Link.takesEventsOnly (k k' : Link) : Prop :=
  k' = { k with latches := k'.latches, companions := k'.companions, attention := k'.attention }

/-- The attention line of a link whose latches or mask may have changed, from `k` to `k'` (R188): RELEASED, it is ASSERTED where a latched,
unmasked event has come to exist; ASSERTED, it enters HOLDOFF with 10 ms to run where none remains; in HOLDOFF it does not change. -/
def Link.attentionFollows (k k' : Link) : Prop :=
  let wants := ∃ b, b < 16 ∧ k'.latches.getLsbD b = true ∧ k'.mask.getLsbD b = false
  (k.attention = .released → (wants → k'.attention = .asserted) ∧ (¬ wants → k'.attention = .released)) ∧
  (k.attention = .asserted → (wants → k'.attention = .asserted) ∧ (¬ wants → k'.attention = .holdoff 10)) ∧
  ∀ n, k.attention = .holdoff n → k'.attention = .holdoff n

/-- From `s` to `t` the links take events and nothing else. -/
def State.linksTakeEvents (s t : State) : Prop :=
  t.links.address = s.links.address ∧ ∀ m, (s.link m).takesEventsOnly (t.link m)

/-- From `s` to `t` link `l` takes a request and makes a reply ready (R179, R182, R184), and beyond that the links take events and
nothing else. -/
def State.linksTakeRequest (s : State) (l : LinkId) (t : State) : Prop :=
  t.links.address = s.links.address ∧
  ∀ m, if m = l then
      ({ s.link m with
          state := .active, sinceFrame := 0, sending := .waiting, startBitSeen := false,
          reply := (t.link m).reply }).takesEventsOnly (t.link m)
    else (s.link m).takesEventsOnly (t.link m)

/-! ### Requests -/

/-- A request of this kind passes the checks of R180 on link `l`, whose receiver is enabled. -/
def State.mayAsk (s : State) (l : LinkId) (kind : Nat) : Prop :=
  s.listening l = true ∧ authority l kind = true ∧ configTakes s.store.state kind = true

/-- A reply waits on link `l`, and the line is idle so far (R182, R183). -/
def State.replies (t : State) (l : LinkId) (kind : Nat) (st : Status) (payload : List Byte) : Prop :=
  (t.link l).reply = some ⟨kind, st, payload⟩ ∧ (t.link l).sending = .waiting ∧ (t.link l).startBitSeen = false

/-- From `s` to `t` a request of link `l` is answered, and only the links and the reported end of LINK_LOST change (R184). -/
def State.answeredOnly (s : State) (l : LinkId) (kind : Nat) (st : Status) (payload : List Byte) (t : State) : Prop :=
  t.replies l kind st payload ∧ t.faults = (refresh l s).faults ∧ s.keepsAllBut [.links, .faults] t ∧
    s.linksTakeRequest l t

/-- From `s` to `t` a request of link `l` is accepted: the reply says so, and beyond the reply, the events and the reported end of
LINK_LOST only the listed blocks change. -/
def State.acceptedWith (s : State) (l : LinkId) (kind : Nat) (payload : List Byte) (changed : List Block) (t : State) : Prop :=
  t.replies l kind .accepted payload ∧ s.linksTakeRequest l t ∧ s.keepsAllBut (.links :: .faults :: changed) t ∧
    (.faults ∈ changed ∨ t.faults = (refresh l s).faults)

/-- From `s` to `t` the links take events, and beyond that only the listed blocks change. -/
def State.actsOn (s : State) (changed : List Block) (t : State) : Prop :=
  s.keepsAllBut (.links :: changed) t ∧ s.linksTakeEvents t

/-- From `s` to `t` link `l` becomes `k` and nothing else changes. -/
def State.linkBecomes (s : State) (l : LinkId) (k : Link) (t : State) : Prop :=
  t.link l = k ∧ (∀ m, m ≠ l → t.link m = s.link m) ∧ t.links.address = s.links.address ∧ s.keepsAllBut [.links] t

/-- The Fault Table holds an ACTIVE record of a kind and a source (R15). -/
def Faults.active (t : Faults) (k : FaultKind) (src : Nat) : Prop := ∃ r ∈ t.records, r.isOf k src = true ∧ r.active = true

/-- An event is latched on every link (R186). -/
def State.latched (t : State) (e : Event) : Prop := ∀ l, (t.link l).latches.getLsbD e.bit = true

/-- From `s` to `t` the arbiter of line `n`, NORMAL and now idle as `x` with the output image `out`, has looked (R109, R110, R113):
where the fire ring applies it begins, otherwise the request at the head of the queue begins its pattern with a copy of its code's
groups, either with its first stroke, and with neither the line stays idle. No other line changes. -/
def State.lineServed (s : State) (n : Nat) (x : Line) (out : List Bool) (t : State) : Prop :=
  let stroke := out.set (s.drivePoint n) true
  (∀ m, m ≠ n → t.line? m = s.line? m) ∧
  (s.ringApplies = true → t.loop = { s.loop with out := stroke } ∧
    t.line? n = some { x with activity := .fire 0, drive := true, strokeLeft := 80 }) ∧
  (∀ r rest, s.ringApplies = false → x.queue = r :: rest → t.loop = { s.loop with out := stroke } ∧
    t.line? n = some { x with
      activity := .pattern ⟨r, s.codeGroups r.code, 0, 0, 0, 0⟩, queue := rest, drive := true, strokeLeft := 80 }) ∧
  (s.ringApplies = false → x.queue = [] → t.loop = { s.loop with out := out } ∧ t.line? n = some { x with activity := .idle })

/-- From `s` to `t` the drive has taken a closing-begun notice, by its state (R49): RUN and ACCEL enter LASTRUN with lastrun_travel 0
and the reference as it stands, WARNING ends, REFERENCE brakes with cause CLOSING, and no other state changes. In RUN, ACCEL and LASTRUN
the chain is MOVING (R36), so that no shutter lowered with the floor departs (R93). -/
def State.takesNotice (s t : State) : Prop :=
  (s.drive.state = .run ∨ s.drive.state = .accel → s.tracker.still = false → t.latched .paternoster ∧
    t.drive = { s.drive with state := .lastrun, lastrunTravel := some 0 }) ∧
  (s.drive.state = .warning → t.latched .paternoster ∧ t.drive = { s.drive with state := .off, warningLines := none }) ∧
  (s.drive.state = .reference →
    t.drive.stopCause = some .closing ∧ t.drive.released = false ∧ t.drive.enable = false ∧ t.drive.vRef = 0 ∧
    if s.tracker.still = true ∨ s.drive.released = true ∧ 500 ≤ s.tracker.quietTime
      then t.drive.state = .off ∧ t.drive.brakeExit = none
      else t.drive.state = .brake ∧ t.drive.brakeExit = some .off) ∧
  (s.drive.state = .lastrun → s.tracker.still = false → t.drive = s.drive) ∧
  (s.drive.state ∈ [.level, .brake, .halt, .off, .inch] → t.drive = s.drive)

/-- The record `y` of shutter `i`, which has joined the waiting list of `s` for direction `w` or changed its direction there: it waits, its
hold as it was in `sh`, or, eligible and the field loop GOOD, it has been granted a slot at once and travels, or has met the limit that was
active already (R78, R82). -/
def State.queuesTravel (s : State) (i : Nat) (w : Travel) (sh y : Shutter) : Prop :=
  y.state = .waitSlot w ∧ y.hold = sh.hold ∧ y.releasePending = sh.releasePending ∨
  ((s.shutterCfg i).kind ≠ 3 ∨ s.tracker.still = true) ∧ (w = .up → s.supplyLow = false) ∧ s.loop.good = true ∧
    y.releasePending = false ∧
    (match w with
      | .down => if s.closedLimit i then y.state = .closed ∧ y.hold = false
          else y.state = .lowering ((s.shutterCfg i).tTravel * 1000) ∧ y.hold = true
      | .up => y.hold = true ∧
          y.state = if s.openLimit i then .opened else .raising ((s.shutterCfg i).tTravel * 1000))

/-- From `s` to `t` the shutters of floor `f`, which has entered CLOSING, are lowered, by their states (R75): an OPEN one joins the
waiting list for DOWN, at a paternoster opening with the chain MOVING it waits in WAIT_STILL to be lowered; a RAISING one stops and joins
for DOWN; one that waits for UP is CLOSED where its closed limit is active, and otherwise waits for DOWN. No other shutter changes but those
that wait, which may be granted a slot. -/
def State.lowersFloor (s : State) (f : Nat) (t : State) : Prop :=
  ∀ (i : Nat) (sh : Shutter), s.shutter? i = some sh → ∃ y, t.shutter? i = some y ∧
    let may := (s.shutterCfg i).kind ≠ 3 ∨ s.tracker.still = true
    let here := (s.shutterCfg i).floor = f
    (here → sh.state = .opened →
      (may → s.queuesTravel i .down sh y) ∧ (¬ may → y = { sh with state := .waitStill .lower, since := y.since })) ∧
    (∀ n, here → sh.state = .raising n → s.queuesTravel i .down sh y) ∧
    (here → sh.state = .waitSlot .up →
      (s.closedLimit i = false → s.queuesTravel i .down sh y) ∧
      (s.closedLimit i = true → y.state = .closed ∧ (may → y.hold = false ∧ y.releasePending = false) ∧
        (¬ may → y.hold = sh.hold ∧ y.releasePending = sh.hold))) ∧
    (¬ here ∨ (sh.state ≠ .opened ∧ ∀ n, sh.state ≠ .raising n) → sh.state.waiting = false → y = sh)

/-- From `s` to `t` the shutters of the floors that OPEN_STORE makes OPENING are raised (R76): a CLOSED one without a drop demand, the
supply not low, joins the waiting list for UP. No other shutter changes but those that wait, which may be granted a slot. -/
def State.raisesFloors (s t : State) : Prop :=
  ∀ (i : Nat) (sh : Shutter), s.shutter? i = some sh → ∃ y, t.shutter? i = some y ∧
    let raised := s.floorMode? (s.shutterCfg i).floor = some .closed ∧ sh.state = .closed ∧ s.dropDemand i = false ∧
      s.supplyLow = false
    (raised → s.queuesTravel i .up sh y) ∧ (¬ raised → sh.state.waiting = false → y = sh)

/-- From `s` to `t` the shutters of which `stops` is true, LOWERING and RAISING ones, stop in their travel (R79, R80): each keeps its
hold, gives up its slot and joins the waiting list at the tail in its direction, several in any order. A shutter that neither stops nor
waits is unchanged; those that waited keep their order, and may be granted a slot. -/
def State.stopsTravel (s : State) (stops : Nat → Bool) (t : State) : Prop :=
  (∀ (i : Nat) (sh : Shutter), s.shutter? i = some sh → ∃ y, t.shutter? i = some y ∧
    let joins := fun (w : Travel) => y = { sh with state := .waitSlot w, since := s.clock.count }
    (stops i = true → (∀ n, sh.state = .lowering n → joins .down) ∧ (∀ n, sh.state = .raising n → joins .up) ∧
      ∀ g : Grant, some g ∈ t.shutters.slots → g.shutter ≠ i) ∧
    (stops i = false → sh.state.waiting = false → y = sh)) ∧
  ∃ kept joined, t.shutters.waitList = kept ++ joined ∧ kept.Sublist s.shutters.waitList ∧
    joined.Perm ((List.range s.shutters.table.length).filter fun i => stops i)

/-- A shutter of kind PATERNOSTER is LOWERING or RAISING: what a chain that becomes MOVING stops (R80). -/
def State.travelsAtOpening (s : State) (i : Nat) : Bool :=
  (s.shutterCfg i).kind == 3 && (s.shutterState? i).any ShutterState.powered

/-- From `s` to `t` link `l` has had a valid frame (R184): it is ACTIVE and its count restarts; from QUIET and from LOST LINK_STATE is set
on every link; from LOST the record of LINK_LOST for this link becomes CLEARED, and no other record changes. -/
def State.hearsFrame (s : State) (l : LinkId) (t : State) : Prop :=
  let src := match l with
    | .F => 0
    | .O => 1
    | .E => 2
  (t.link l).state = .active ∧ (t.link l).sinceFrame = 0 ∧ ((s.link l).state ≠ .active → t.latched .linkState) ∧
    ((s.link l).state ≠ .lost → t.faults = s.faults) ∧
    ((s.link l).state = .lost → t.faults = { s.faults with
      records := s.faults.records.map fun x =>
        if x.kind = .linkLost ∧ x.source = src then { x with active := false } else x })

/-! ### The plan record -/

/-- The closing time of a day (R129): the entry of the exception list for the day, or without one the entry of the schedule for its
weekday, gives a second of day, with which it is a store count, or NONE. -/
def State.closesAt (s : State) (day : Nat) (close : Option Nat) : Prop :=
  ∃ entry : Option Nat, close = entry.map (fun c => day * 86400 + c) ∧
    ((∃ x ∈ s.store.op.exceptions, x.day = day ∧ entry = x.closing) ∨
      (∀ x ∈ s.store.op.exceptions, x.day ≠ day) ∧ entry = s.store.op.schedule.getD ((day + s.eng.epoch) % 7) none)

/-- The record's day is below the current day, as every day given before a wrap is (R132). -/
def State.dayPast (s : State) (p : Plan) : Prop := p.beforeWrap = true ∨ p.day < s.clock.count / 86400

/-- The record is carried (R132). -/
def State.carries (s : State) (p : Plan) : Prop := (p.status = .waiting ∨ p.status = .running) ∧ s.dayPast p

/-- With the clock, the part's state and the parameters of `s`, a rebuild makes `p` of the record `old` (R133, by its four steps).
A DONE record that an apply finds with fewer positions taken than floors is left out (notes/assumptions/18.md). -/
def State.rebuilds (s : State) (old p : Plan) : Prop :=
  let today := s.clock.count / 86400
  let keeps := s.carries old ∨ ¬ s.dayPast old
  (s.clock.isSet = false ∨ s.supervising = false → p = ⟨today, none, 0, .pending, .pending, .pending, 0, none, .none, false⟩) ∧
  (s.clock.isSet = true → s.supervising = true →
    (s.carries old → p.day = old.day ∧ p.baseClose = old.baseClose ∧ p.beforeWrap = old.beforeWrap) ∧
    (¬ s.carries old → p.day = today ∧ s.closesAt today p.baseClose ∧ p.beforeWrap = false) ∧
    (keeps → p.holdTotal = old.holdTotal ∧ p.warn1 = old.warn1 ∧ p.warn2 = old.warn2 ∧ p.close = old.close ∧
      p.nextPosition = old.nextPosition) ∧
    (¬ keeps → p.holdTotal = 0 ∧ p.warn1 = .pending ∧ p.warn2 = .pending ∧ p.close = .pending ∧ p.nextPosition = 0) ∧
    (keeps ∧ p.status = .running → p.positionWait = old.positionWait) ∧
    (¬ (keeps ∧ p.status = .running) → p.positionWait = none) ∧
    (keeps → old.status = .abandoned → p.status = .abandoned) ∧
    (¬ (keeps ∧ old.status = .abandoned) →
      (p.close = .skipped ∨ p.close = .taken ∧ s.eng.floorCount ≤ p.nextPosition → p.status = .done) ∧
      (¬ (keeps ∧ old.status = .done) →
        (p.close = .taken → p.nextPosition < s.eng.floorCount → p.status = .running) ∧
        (p.close = .pending → p.status = if p.baseClose = none then .none else .waiting))))

/-- The effective closing time T of a record (R131), and a stage with a lead of `w` minutes is due by the store count of `s` (R134), which
counts on past a wrap for a record given before it (R132). -/
def State.stageDue (s : State) (p : Plan) (w : Nat) : Prop :=
  p.baseClose.getD 0 + 60 * p.holdTotal - 60 * w ≤ s.clock.count + if p.beforeWrap = true then 4294967296 else 0

/-- An evaluation leaves the record as it is (R132, R135): it is not one of a past day that has settled, and no stage of a WAITING one that
is not done is due, or a floor is in FIRE. -/
def State.planStands (s : State) (p : Plan) : Prop :=
  (p.status = .done ∨ p.status = .abandoned → ¬ s.dayPast p) ∧
  (p.status = .waiting → s.firePresent = true ∨ ¬ s.stageDue p 0 ∧ (p.warn2 = .pending → ¬ s.stageDue p s.store.op.w2) ∧
    (p.warn1 = .pending → ¬ s.stageDue p s.store.op.w1))

/-- The record of `t` is the one that a rebuild makes of `old`, evaluated (R133, R135): it is that record where no stage is due in it, and
a stage that is taken leaves the day, base_close and hold_total of a record of the current day. -/
def State.planRebuilt (t : State) (old : Plan) : Prop :=
  ∃ p, t.rebuilds old p ∧ (t.planStands p → t.plan = p) ∧
    (¬ t.carries old → t.plan.day = p.day ∧ t.plan.baseClose = p.baseClose ∧ t.plan.holdTotal = p.holdTotal)

/-- The record `q` is `p` with the stages whose times have come marked SKIPPED and not taken, and DONE where CLOSE is among them
(R143). -/
def State.skipsPassed (s : State) (p q : Plan) : Prop :=
  let marks := fun (m m' : Marker) (w : Nat) => (m = .pending ∧ s.stageDue p w → m' = .skipped) ∧ (¬ (m = .pending ∧ s.stageDue p w) → m' = m)
  (p.status ≠ .waiting → q = p) ∧
  (p.status = .waiting → marks p.warn1 q.warn1 s.store.op.w1 ∧ marks p.warn2 q.warn2 s.store.op.w2 ∧ marks p.close q.close 0 ∧
    q = { p with
      warn1 := q.warn1, warn2 := q.warn2, close := q.close, status := if q.close = .skipped then .done else .waiting })

/-- The record of `t` is the one that start-up or an apply makes of `old` (R143): rebuilt, and the stages whose times have come SKIPPED. -/
def State.planAtStart (t : State) (old q : Plan) : Prop := ∃ p, t.rebuilds old p ∧ t.skipsPassed p q

/-- Commands taken one after the other, stopping at the first that stops. -/
def execAll : List Instr → State → Host.Outcome State Fault Refusal
  | [], s => .next s
  | c :: cs, s =>
    match exec c s with
    | .next t => execAll cs t
    | .fault r => .fault r
    | .refused r => .refused r

/-! ### Invariants -/

/-- The attention line is ASSERTED only with a latched, unmasked event, and RELEASED only without one; HOLDOFF stands apart
(R188). -/
def Link.attentionAgrees (k : Link) : Prop :=
  match k.attention with
  | .asserted => k.wantsAttention = true
  | .released => k.wantsAttention = false
  | .holdoff _ => True

/-- R188 on every link. -/
def State.attentionAgrees (s : State) : Prop := ∀ l, (s.link l).attentionAgrees

/-- The Fault Table holds at most 32 records, and one at most of a kind and a source (R15, R16). -/
def Faults.wf (t : Faults) : Prop :=
  t.records.length ≤ 32 ∧ (t.records.map fun r => (r.kind, r.source)).Nodup

/-- The states in which the drive holds the brake released (R42, R46, R51, R55, R64): those that drive the chain, LEVEL in phase
TRAVEL and INCH once it has started. -/
def Drive.moving (d : Drive) : Bool :=
  match d.state with
  | .reference | .accel | .run | .lastrun => true
  | .level => d.level.any fun v => v.phase == .travel
  | .inch => d.inch.any (·.started)
  | .off | .warning | .brake | .halt => false

/-- The brake is released exactly in the states that move the chain; drive_enable is ON exactly while it is released; an applied
brake leaves no speed reference; and a chain deemed still has the brake applied (R36, R42, R55, R58). -/
def State.brakeAgrees (s : State) : Prop :=
  s.drive.released = s.drive.moving ∧ s.drive.enable = s.drive.released ∧
    (s.drive.released = false → s.drive.vRef = 0) ∧ (s.tracker.still = true → s.drive.released = false)

/-- The boarding field of a floor is DARK exactly while the paternoster is in RUN and the floor is OPEN or WARNED (R14). -/
def State.lampsAgree (s : State) : Prop :=
  ∀ f ∈ s.floors.table, f.lit = false ↔ s.drive.state = .run ∧ (f.mode = .opened ∨ f.mode = .warned)

/-- Both lamp points of every floor are on in the output image exactly where its boarding field is LIT (R14). -/
def State.lampsShown (s : State) : Prop :=
  ∀ (f : Nat) (fl : Floor), s.floors.table[f]? = some fl → ∀ p ∈ s.lampPoints f, s.outPoint p = fl.lit

/-- The lamp points of the floors lie in the output image, and no two floors share one, as the consistency checks see to (R194). -/
def State.lampsApart (s : State) : Prop :=
  (∀ f, f < s.floors.table.length → ∀ p ∈ s.lampPoints f, p < s.loop.out.length) ∧
    (List.range s.floors.table.length).Pairwise fun f g => ∀ p ∈ s.lampPoints f, p ∉ s.lampPoints g

/-- The powered shutters are exactly those granted a motor slot, each one slot; the waiting list holds exactly the shutters in
WAIT_SLOT and the WAIT_STILL order exactly those in WAIT_STILL, each once (R73, R81, R82). -/
def Shutters.listsAgree (t : Shutters) : Prop :=
  let granted := t.slots.filterMap fun g => g.map fun x => x.shutter
  let those := fun (p : ShutterState → Bool) => (List.range t.table.length).filter fun i => (t.table[i]?).any fun sh => p sh.state
  granted.Perm (those ShutterState.powered) ∧ t.waitList.Perm (those ShutterState.waiting) ∧
    t.stillList.Perm (those ShutterState.inWaitStill)

/-- The speeds and floors of an engineering part hold the bounds that the consistency checks see to (R41, R194, checks 3 and 6). -/
def engBounded (e : Eng) : Prop :=
  e.vCreep ≤ e.vRun ∧ e.vInch ≤ e.vRun ∧ e.vRun ≤ e.vFull ∧ ∀ z, z < 16 → e.zoneFloors.getD z 0 < e.floorCount

/-- The engineering part in force, and one that a good reading holds ready, is bounded; none is in force outside SUPERVISING; and
in it every zone is of a floor of the table (R2, R192 to R194). -/
def State.paramsBounded (s : State) : Prop :=
  (∀ e, s.store.eng = some e → engBounded e) ∧ (∀ p, s.store.loaded = some p → engBounded p.1) ∧
    (s.supervising = false → s.store.eng = none) ∧
    (s.supervising = true → ∀ z ∈ s.floors.zones, z.floor < s.floors.table.length)

/-- The bounds of the speed reference (R43): at most v_run, and v_inch in INCH; in phase TRAVEL of a levelled stop with a distance
r > 0 at most the larger of v_creep and isqrt(2·a·r), and v_now at most v_run (3.5); its output code at most 1023. -/
def State.speedBounded (s : State) : Prop :=
  s.drive.vRef ≤ s.eng.vRun ∧ (s.drive.state = .inch → s.drive.vRef ≤ s.eng.vInch) ∧ s.speedCode ≤ 1023 ∧
    ∀ v, s.drive.state = .level → s.drive.level = some v → v.phase = .travel →
      v.vNow ≤ s.eng.vRun ∧ (0 < v.r → s.drive.vRef ≤ max s.eng.vCreep (isqrt (2 * s.eng.accel * v.r)))

/-- The law of R44: the drive is in WARNING, REFERENCE, ACCEL, RUN or LASTRUN only while the part is SUPERVISING, no floor is in FIRE,
no landing trip is active, the field loop is GOOD and every shutter of kind PATERNOSTER is OPEN or, on a floor in CLOSING, in WAIT_STILL
to be lowered. -/
def State.driveLawful (s : State) : Prop :=
  s.drive.state ∈ [.warning, .reference, .accel, .run, .lastrun] →
    s.supervising = true ∧ s.firePresent = false ∧ (∀ p ∈ s.eng.trips.take (2 * s.eng.floorCount), s.input p = false) ∧
      s.loop.good = true ∧
      ∀ (i : Nat) (sh : Shutter), s.shutter? i = some sh → (s.shutterCfg i).kind = 3 →
        sh.state = .opened ∨ sh.state = .waitStill .lower ∧ s.floorMode? (s.shutterCfg i).floor = some .closing

/-- The laws of the shutters. One of kind PATERNOSTER is LOWERING or RAISING only while the chain is deemed still (R70, R80). While its
drop demand is true a shutter is not OPEN, WAIT_SLOT, LOWERING, RAISING or INHIBITED, nor in WAIT_STILL to be lowered (R71). It is
LOWERING, and waits to be, only on a floor in CLOSING (R75). On a CLOSED floor, and on one in FIRE, it is not OPEN, LOWERING, RAISING or in
WAIT_SLOT (R77, R71). -/
def State.shuttersLawful (s : State) : Prop :=
  ∀ (i : Nat) (sh : Shutter), s.shutter? i = some sh →
    let mode := s.floorMode? (s.shutterCfg i).floor
    let up := sh.state = .opened ∨ sh.state.waiting = true ∨ sh.state.powered = true
    ((s.shutterCfg i).kind = 3 → sh.state.powered = true → s.tracker.still = true) ∧
    (s.dropDemand i = true → ¬ up ∧ sh.state ≠ .inhibited ∧ sh.state ≠ .waitStill .lower) ∧
    ((∃ n, sh.state = .lowering n) ∨ sh.state = .waitSlot .down ∨ sh.state = .waitStill .lower → mode = some .closing) ∧
    (mode = some .closed ∨ mode = some .fire → ¬ up)

/-- Slot 7 is for the evacuation alone: an entry of the playout queue, and the playout on air or in its tail, is of slot 7 exactly when
its class is EVAC (R144, R148, R154). -/
def Announce.evacSlot (a : Announce) : Prop :=
  (∀ q ∈ a.queue, q.slot = 7 ↔ q.cls = .evac) ∧ ∀ p, a.playout = some p → (p.slot = 7 ↔ p.cls = .evac)

/-- The queue of every bell line holds at most 8 requests, in the order of their classes, at most one for a call entry, and on the
counting-house line at most one TROUBLE (R108, R112). -/
def State.soundQueuesLawful (s : State) : Prop :=
  ∀ (n : Nat) (k : Line), s.line? n = some k →
    k.queue.length ≤ 8 ∧ k.queue.Pairwise (fun a b => a.cls.code ≤ b.cls.code) ∧ (k.queue.filterMap (·.callId)).Nodup ∧
      (n = 8 → (k.queue.countP fun q => q.cls == .trouble) ≤ 1)

/-- The playout queue holds at most 8 entries, in the order of their classes, no slot twice and never the slot on air; the slots are 0
to 7 (R144, R147). -/
def Announce.queueLawful (a : Announce) : Prop :=
  a.queue.length ≤ 8 ∧ a.queue.Pairwise (fun x y => x.cls.code ≤ y.cls.code) ∧ (a.queue.map (·.slot)).Nodup ∧
    (∀ q ∈ a.queue, q.slot ≤ 7) ∧
    ∀ p, a.playout = some p → p.slot ≤ 7 ∧ (p.phase ≠ .tail → ∀ q ∈ a.queue, q.slot ≠ p.slot)

/-- Seven weekdays, thirty-one codes, eight script slots (R101, R127, R144). -/
def opSized (o : Op) : Prop := o.schedule.length = 7 ∧ o.codes.length = 31 ∧ o.scripts.length = 8

/-- The lists whose lengths the spec fixes: sixteen zones, six analog channels, eight script slots, 192 points (R2, R144, R162,
R170), those of the operating part, and at most four motor slots (R81). -/
def State.sized (s : State) : Prop :=
  s.floors.zones.length = 16 ∧ s.analog.length = 6 ∧ s.announce.pendingCopies.length = 8 ∧
    s.loop.out.length = 192 ∧ s.loop.samples.length = 192 ∧ s.loop.debounced.length = 192 ∧ s.loop.runs.length = 192 ∧
    opSized s.store.op ∧ s.shutters.slots.length ≤ 4 ∧
    ∀ p, s.store.loaded = some p → opSized p.2 ∧ p.1.slotCount ≤ 4

end Sys2Proof.Machine
end

