-- ==== Sys2Proof/Certificates/Slice0/Obligations.lean ====
section
/-! DEFINITION. The statements for the provers. `t` is the state after a command; `State.acceptedWith`, `State.answeredOnly`,
`State.actsOn` and `State.linkBecomes` (Safety.lean) say what a command leaves unchanged. A request's hypotheses are `State.mayAsk`
(R180, R181) and what its rule asks of the owner; where the part after the refreshed supervision matters (R184) it is
`refresh l s`. -/

open Sys2Proof Sys2Proof.Machine

/-! ### The queue, start-up and the links -/

/-- A step takes the command at the front of the queue and runs it on the rest. -/
def Obligations.StepRunsFrontCommand : Prop :=
  ∀ (c : Instr) (q : List Instr) (s : State), step { s with pending := c :: q } = exec c { s with pending := q }

/-- With an empty queue the part's own time base runs: the first command that is due, or else one millisecond, which leaves
the Fault Table, the brake, the output image and the applied configuration as they are.

In that millisecond every time that runs falls by one, or rises by one to its ceiling, block by block, and nothing else changes: a time
at 0 stays there, the deadline and the evaluation of a levelled stop run in phase TRAVEL alone (R54, R57), the timers that a word to
the player starts run once no word is left on the port (R156), and the prescaler counts 4,096/125 periods (R122).

A command of these times is due exactly while its time has run out and the state that it times stands, start-up and the save, the
links, the chain and the drive, the shutters, the bells, the clock and the plan, the announcements, the loop and the monitor; no
other command is ever due.

That an empty queue runs the time base in milliseconds, and what is due first, is the model's choice (notes/assumptions/2.md), and so
are its own counts (notes/assumptions/27.md) and that a timer which a word starts waits for the port to be empty
(notes/assumptions/21.md). -/
def Obligations.EmptyQueueRunsTimeBase : Prop :=
  (∀ s : State, s.pending = [] →
     (∀ c cs, dueCommands s = c :: cs → step s = exec c s) ∧
     (dueCommands s = [] → ∃ t, step s = .next t ∧ t.pending = [] ∧ t.faults = s.faults ∧
       t.drive.state = s.drive.state ∧ t.drive.released = s.drive.released ∧ t.loop.out = s.loop.out ∧
       t.store.eng = s.store.eng ∧ t.store.op = s.store.op ∧
       let falls := fun (left : Option Nat) => left.map fun n => n - 1
       let p := s.announce.port
       let sent := p.outbox = []
       t.floors = { s.floors with debounceLeft := falls s.floors.debounceLeft } ∧
       t.tracker = { s.tracker with
         windowLeft := s.tracker.windowLeft - 1, quietTime := min 500 (s.tracker.quietTime + 1)
         brakeAppliedTime := if s.drive.released then 0 else min 8000 (s.tracker.brakeAppliedTime + 1) } ∧
       t.drive = { s.drive with
         rampLeft := s.drive.rampLeft - 1
         sinceRelease := if s.drive.wasReleased then min 1000 (s.drive.sinceRelease + 1) else s.drive.sinceRelease
         level := s.drive.level.map fun v =>
           if v.phase = .travel then { v with evalLeft := v.evalLeft - 1, deadline := falls v.deadline } else v
         inch := s.drive.inch.map fun i => { i with lease := i.lease - 1 } } ∧
       t.shutters.waitList = s.shutters.waitList ∧ t.shutters.stillList = s.shutters.stillList ∧
       t.shutters.table.length = s.shutters.table.length ∧
       (∀ (i : Nat) (sh : Shutter), s.shutter? i = some sh → t.shutter? i = some { sh with state := match sh.state with
         | .dropping left => .dropping (falls left)
         | .lowering n => .lowering (n - 1)
         | .raising n => .raising (n - 1)
         | other => other }) ∧
       t.shutters.slots = (s.shutters.slots.map fun g => g.map fun x => { x with elapsed := x.elapsed + 1 }) ∧
       t.bells.nextCallId = s.bells.nextCallId ∧
       t.bells.calls = (s.bells.calls.map fun c => { c with nextDue := falls c.nextDue }) ∧
       t.bells.oldTails = (s.bells.oldTails.map fun o => { o with left := o.left - 1 }) ∧
       t.bells.lines = (s.bells.lines.map fun k => { k with
         strokeLeft := k.strokeLeft - 1
         activity := match k.activity with
           | .pattern c => .pattern { c with sinceStroke := c.sinceStroke + 1, elapsed := c.elapsed + 1 }
           | .fire n => .fire (n + 1)
           | other => other }) ∧
       t.clock.count = s.clock.count ∧ t.clock.isSet = s.clock.isSet ∧ t.clock.secondLength = s.clock.secondLength ∧
       125 * t.clock.prescaler + t.clock.periodPart = 125 * s.clock.prescaler + s.clock.periodPart + 4096 ∧
       t.clock.periodPart < 125 ∧
       t.plan = { s.plan with positionWait := falls s.plan.positionWait } ∧
       t.announce = { s.announce with
         queue := s.announce.queue.map fun q => { q with gap := falls q.gap }
         playout := s.announce.playout.map fun x => { x with timer := x.timer - 1 }
         port := { p with
           startTimer := if sent then falls p.startTimer else p.startTimer
           phraseTimer := falls p.phraseTimer
           abortWait := if sent then falls p.abortWait else p.abortWait
           readyLowTime := if p.state = .faulted ∧ p.readyHigh = false then min 1000 (p.readyLowTime + 1) else p.readyLowTime
           startUpLeft := falls p.startUpLeft } } ∧
       t.loop = { s.loop with scanLeft := s.loop.scanLeft - 1 } ∧
       t.analog = (s.analog.map fun c => { c with blanking := falls c.blanking }) ∧
       t.links.address = s.links.address ∧
       (∀ l, t.link l = { s.link l with
         sinceFrame := min 120000 ((s.link l).sinceFrame + 1)
         attention := match (s.link l).attention with
           | .holdoff n => .holdoff (n - 1)
           | other => other }) ∧
       t.store = { s.store with
         sinceReset := min 400 (s.store.sinceReset + 1)
         save := s.store.save.map fun v => { v with busyLeft := v.busyLeft - 1, limitLeft := v.limitLeft - 1 } })) ∧
  (∀ s : State,
     let due := fun (c : Instr) => c ∈ dueCommands s
     let d := s.drive
     let k := s.tracker
     let p := s.announce.port
     let loading := s.store.state = .loading
     let air := fun (ph : PlayPhase) => ∃ x, s.announce.playout = some x ∧ x.phase = ph ∧ x.timer = 0
     let inching := fun (ends : InchRec → Prop) => d.state = .inch ∧ ∃ i, d.inch = some i ∧ ends i
     let levelled := fun (ends : LevelRec → Prop) =>
       d.state = .level ∧ ∃ v, d.level = some v ∧ v.phase = .travel ∧ ends v
     let sounding := fun (n : Nat) (ends : Current → Prop) =>
       ∃ x ∈ s.bells.lines, x.num = n ∧ ∃ c, x.activity = .pattern c ∧ ends c
     (due .enterSupervising ↔ loading ∧ s.store.loaded ≠ none ∧ (s.floors.settled = true ∨ 400 ≤ s.store.sinceReset)) ∧
     (due .loadingTimeout ↔ loading ∧ s.store.loaded = none ∧ 400 ≤ s.store.sinceReset) ∧
     (due .saveBusyTimeout ↔ ∃ v, s.store.save = some v ∧ v.page ≠ none ∧ v.busyLeft = 0) ∧
     (due .saveTimeLimit ↔ ∃ v, s.store.save = some v ∧ v.limitLeft = 0) ∧
     (due .fireInputDebounceEnd ↔ s.floors.debounceLeft = some 0) ∧
     (∀ l, due (.attentionHoldoffEnd l) ↔ (s.link l).attention = .holdoff 0) ∧
     (∀ l, due (.linkSupervisionExpiry l) ↔ s.supervised l = true ∧ (s.link l).state ≠ .lost ∧
       (s.linkCfg l).supervision * 1000 ≤ (s.link l).sinceFrame) ∧
     (due .speedWindowEnd ↔ k.windowLeft = 0) ∧
     (due .quietTimeExpiry ↔ d.released = false ∧ k.still = false ∧ 500 ≤ k.quietTime) ∧
     (due .brakeApplied8s ↔ d.released = false ∧ k.still = false ∧ 8000 ≤ k.brakeAppliedTime) ∧
     (due .accelRampStep ↔ d.rampLeft = 0 ∧ (d.state = .accel ∨ d.state = .lastrun ∧ d.vRef < s.eng.vRun)) ∧
     (due .levelProfileEval ↔ levelled fun v => v.evalLeft = 0) ∧
     (due .fireDeadlineExpiry ↔ levelled fun v => v.deadline = some 0) ∧
     (due .inchRampStep ↔ inching fun i => i.started = true ∧ d.rampLeft = 0) ∧
     (due .inchLeaseExpiry ↔ inching fun i => i.lease = 0) ∧
     (∀ i, due (.dropTimerExpiry i) ↔ s.shutterState? i = some (.dropping (some 0))) ∧
     (∀ i, due (.travelTimerExpiry i) ↔ s.shutterState? i = some (.lowering 0) ∨ s.shutterState? i = some (.raising 0)) ∧
     (∀ n, due (.strokeEnd n) ↔ (∃ o ∈ s.bells.oldTails, o.line = n ∧ o.left = 0) ∨
       ∃ x ∈ s.bells.lines, x.num = n ∧ x.drive = true ∧ x.strokeLeft = 0) ∧
     (∀ n, due (.strokeStart n) ↔ sounding n fun c => c.next? ≠ none ∧
       (if c.stroke + 1 < c.groups.getD c.group 0 then 300 else 1000) ≤ c.sinceStroke) ∧
     (∀ n, due (.patternEnd n) ↔ sounding n fun c => c.next? = none ∧ 2000 ≤ c.sinceStroke) ∧
     (∀ n, due (.fireRingStroke n) ↔ ∃ x ∈ s.bells.lines, x.num = n ∧ ∃ m, x.activity = .fire m ∧ 300 ≤ m) ∧
     (∀ id, due (.callRepeatDue id) ↔ s.firePresent = false ∧ ∃ c ∈ s.bells.calls,
       c.callId = id ∧ c.state = .pending ∧ c.roundLines = none ∧ c.nextDue = some 0) ∧
     (due .secondTick ↔ s.clock.secondLength ≤ s.clock.prescaler) ∧
     (due .positionWaitExpiry ↔ s.plan.status = .running ∧ s.plan.positionWait = some 0) ∧
     (due .playoutLeadEnd ↔ air .lead ∧ p.state = .idle) ∧
     (due .playoutGapEnd ↔ air .gap ∧ p.state = .idle) ∧
     (due .playoutTailEnd ↔ air .tail) ∧
     (due .evacGapExpiry ↔ s.announce.playout = none ∧ p.state = .idle ∧
       ∃ q ∈ s.announce.queue, q.cls = .evac ∧ q.gap = some 0) ∧
     (due .startTimerExpiry ↔ p.state = .starting ∧ p.startTimer = some 0) ∧
     (due .phraseTimerExpiry ↔ p.state = .playing ∧ p.abortWait = none ∧ p.phraseTimer = some 0) ∧
     (due .abortWaitExpiry ↔ p.state = .playing ∧ p.abortWait = some 0) ∧
     (due .playerRecovery ↔ p.state = .faulted ∧ p.readyHigh = false ∧ 1000 ≤ p.readyLowTime) ∧
     (due .playerStartUpCheck ↔ p.startUpLeft = some 0) ∧
     (due .scanStart ↔ s.store.state = .supervising ∧ s.loop.scan = none ∧ s.loop.scanLeft = 0) ∧
     (∀ c, due (.analogBlankingEnd c) ↔ ∃ x, s.analog[c]? = some x ∧ x.blanking = some 0) ∧
     (∀ c, due c → match c with
       | .enterSupervising | .loadingTimeout | .saveBusyTimeout | .saveTimeLimit | .fireInputDebounceEnd
       | .attentionHoldoffEnd _ | .linkSupervisionExpiry _ | .speedWindowEnd | .quietTimeExpiry | .brakeApplied8s
       | .accelRampStep | .levelProfileEval | .fireDeadlineExpiry | .inchRampStep | .inchLeaseExpiry
       | .dropTimerExpiry _ | .travelTimerExpiry _ | .strokeEnd _ | .strokeStart _ | .patternEnd _ | .fireRingStroke _
       | .callRepeatDue _ | .secondTick | .positionWaitExpiry | .playoutLeadEnd | .playoutGapEnd | .playoutTailEnd
       | .evacGapExpiry | .startTimerExpiry | .phraseTimerExpiry | .abortWaitExpiry | .playerRecovery
       | .playerStartUpCheck | .scanStart | .analogBlankingEnd _ => True
       | _ => False))

/-- No command stops the part, and none touches the queue of those that wait. That no condition of the spec stops the part
(notes/assumptions/24.md), and that a reset leaves the queue (notes/assumptions/20.md), is the model's choice. -/
def Obligations.EveryCommandCompletes : Prop :=
  ∀ (c : Instr) (s : State), ∃ t, exec c s = .next t ∧ t.pending = s.pending

/-- A reset holds every output safe and begins LOADING (R192, R124, R190), from every state and with whatever the pins show: power-on
clears the clock, an external reset keeps it, and where the clock-set flag is clear CLOCK_NOT_SET is recorded and CLOCK set. Nothing else of
the part before the reset stays: no floor, line, shutter, call or queued playout, the zones CLEAR, the flags and the silence clear (R22), the
fire input as the pin shows it and in alarm until it has held one level for 200 ms (R3), the chain unreferenced at 0 and MOVING, its encoder
levels those of the pins (R39), the drive OFF with the brake applied (R67), no shutter and no slot (R95), no line and no call (R120), the
plan blank for the day of the clock with the operating part at its defaults (R143, R193), the port FAULTED with cause START_UP (R160), the
output image all off (R169), no channel evaluated (R175), and each link QUIET and HUNTING at its strapped rate with STARTUP latched, its
attention line ASSERTED (R190).

The model's choice are: the own counts and samples of the blocks (notes/assumptions/27.md), that commands that wait stay in the queue
(notes/assumptions/20.md), the fire input's debounced state until it settles (notes/assumptions/33.md), the loop's state FAULTED from the
reset on, which R169 gives from the entry to SUPERVISING (notes/assumptions/34.md), that the second in progress keeps its length through an
external reset (notes/assumptions/39.md), load_result before any LOADING has ended (notes/assumptions/4.md), and that an external reset sets
no CONFIG (notes/assumptions/42.md). -/
def Obligations.ResetsHoldOutputsSafe : Prop :=
  ∀ (p : Pins) (s : State),
    let link := fun (rate : Nat) (latches : Word) =>
      ({ rate := rate, state := .quiet, sinceFrame := 0, receiver := .hunting, errorCount := 0, abandonedCount := 0
         latches := latches, companions := 0, mask := 0, attention := .asserted
         reply := none, sending := .idle, startBitSeen := false, onLine := [] } : Link)
    let begun := fun (c : Clock) (records : List FaultRec) (latches : Word) =>
      ({ floors := { table := [], zones := List.replicate 16 ⟨false, 0, 0⟩, gaFlag := false, pinOpen := p.fireOpen
                     inputAlarm := true, debounceLeft := some 200, settled := false, silence := false }
         faults := { records := records, full := false }
         tracker := { counter := 0, direction := .forward, referenced := false, travel := 0, lastDeviation := none
                      lastCorrection := none, errorCount := 0, pitchTravel := 0, windowTicks := 0, measuredSpeed := 0
                      quietTime := 0, brakeAppliedTime := 0, still := false, unconfirmedRaised := false
                      encA := p.encA, encB := p.encB, windowLeft := 100 }
         drive := { state := .off, vRef := 0, released := false, enable := false, reverse := false, brakeExit := none
                    stopCause := none, haltCause := none, warningLines := none, lastrunTravel := none, level := none
                    overspeedCount := 0, stallCount := 0, sinceRelease := 0, inch := none, inchOrigin := none
                    rampLeft := 0, wasReleased := false }
         shutters := { table := [], slots := [], waitList := [], stillList := [] }
         bells := { lines := [], calls := [], nextCallId := 1, oldTails := [] }
         clock := c
         plan := { day := c.count / 86400, baseClose := none, holdTotal := 0, warn1 := .pending, warn2 := .pending
                   close := .pending, nextPosition := 0, positionWait := none, status := .none, beforeWrap := false }
         announce :=
           { pendingCopies := List.replicate 8 none, queue := [], playout := none, last := none
             port := { state := .faulted, startTimer := none, phraseTimer := none, abortWait := none, readyLowTime := 0
                       missingCount := 0, faultCause := some .startUp, readyHigh := p.readyHigh, outbox := []
                       resultDue := .nothing, startUpLeft := some 2000, startUpRaised := false } }
         loop := { good := false, out := List.replicate 192 false, samples := List.replicate 192 false
                   debounced := List.replicate 192 false, runs := List.replicate 192 0, badRun := 0, nextCheck := 0xA5C3
                   scanCount := 0, badScans := 0, scan := none, scanLeft := 0 }
         analog := List.replicate 6 ⟨0, .inside, 0, 0, false, none⟩
         links := { address := p.address, f := link p.rateF latches, o := link p.rateO latches, e := link p.rateE latches }
         store := { state := .loading, eng := none, loadResult := .timeout, loadFailure := none, loaded := none
                    lastRead := none, shadow := none, save := none, lastSave := .none, saveFailure := none
                    sinceReset := 0, timeouts := s.store.timeouts
                    op := { schedule := List.replicate 7 none, exceptions := [], w1 := 0, w2 := 0, stagger := 0, order := []
                            codes := [⟨[3, 3], 0⟩, ⟨[1, 1, 1, 1], 0⟩, ⟨[5], 0⟩] ++ List.replicate 28 ⟨[1], 0xFF⟩
                            scripts := List.replicate 8 none } }
         pending := s.pending } : State)
    let notSet := fun (c : Clock) => begun c [⟨.clockNotSet, 0, c.count, c.count, 1, true⟩] 0x9800
    exec (.powerOnReset p) s = .next (notSet ⟨0, false, 0, 32768, 0⟩) ∧
    exec (.externalReset p) s = .next (if s.clock.isSet then begun s.clock [] 0x8000 else notSet s.clock)

/-- A reading that fails, or is not judged in time, leaves the part UNCONFIGURED with its outcome and raises CONFIG_BAD; a good
one is kept until the fire input has settled (R192, R193). What a reading that times out had read, and whether it had passed the
tests, is a free value (notes/assumptions/29.md).

A memory that does not answer, or whose marker is wrong, reads NO_MARKER, and the later tests follow in their order (R192), last the
consistency checks, which give CHECK_FAILED with the section and field of the first that fails (its field number is the model's,
notes/assumptions/10.md). Where the marker, the format and the lengths pass, the engineering bytes are kept (R195).

With a good reading waiting the part becomes SUPERVISING: every floor CLOSED, or in FIRE where general alarm is active,
the zones CLEAR, the chain unmoved, the shutters UNKNOWN with their holds released, the lines NORMAL, the loop FAULTED
until its first good scan (R193, R22, R95, R120, R169). The exception list loses the past days where the clock is set, and the plan
record is rebuilt by R133 and not evaluated: the stages whose times have come are SKIPPED, and it is DONE where CLOSE is among them
(R143). A record given before a wrap bears a mark of the model's own (notes/assumptions/25.md). Where no good reading waits nothing
changes. -/
def Obligations.Loading : Prop :=
  (∀ (memory : List Byte) (s : State), s.store.state = .loading → s.store.loaded = none →
     (∃ t, exec .loadingTimeout s = .next t ∧
       t.store = { s.store with
         state := .unconfigured, loadResult := .timeout, loadFailure := none
         lastRead := t.store.lastRead, timeouts := t.store.timeouts } ∧
       (∀ bytes, t.store.lastRead = some bytes → bytes.length = 799) ∧
       t.faults = s.faults.raise .configBad 0 s.clock.count ∧ t.latched .config ∧
       s.actsOn [.store, .faults, .bells, .loop] t) ∧
     ((judge memory).parts = none → ∃ t, exec (.imageReadDone memory) s = .next t ∧
       t.store = { s.store with
         state := .unconfigured, loadResult := (judge memory).result, loadFailure := (judge memory).failure
         lastRead := (judge memory).read } ∧
       t.faults = s.faults.raise .configBad 0 s.clock.count ∧ t.latched .config ∧
       s.actsOn [.store, .faults, .bells, .loop] t) ∧
     (∀ e o, (judge memory).parts = some (e, o) → ∃ t, exec (.imageReadDone memory) s = .next t ∧
       t.store = { s.store with
         loadResult := .good, loadFailure := none, lastRead := (judge memory).read, loaded := some (e, o) } ∧
       s.keepsAllBut [.store] t)) ∧
  ((judge []).result = .noMarker ∧
   ∀ (marker format eng op : Nat) (body : List Byte), marker < 65536 → format < 65536 → eng < 65536 → op < 65536 →
     body.length = 1457 → ∀ crc : List Byte, crc.length = 2 →
     let header := be 2 marker ++ be 2 format ++ be 2 eng ++ be 2 op
     (marker ≠ 0x5A17 → (judge (header ++ body ++ crc)).result = .noMarker) ∧
     (marker = 0x5A17 → format ≠ 1 → (judge (header ++ body ++ crc)).result = .badFormat) ∧
     (marker = 0x5A17 → format = 1 → (eng ≠ 799 ∨ op ≠ 658) → (judge (header ++ body ++ crc)).result = .badLength) ∧
     (marker = 0x5A17 → format = 1 → eng = 799 → op = 658 →
       let judged := judge (header ++ body ++ crc)
       let failure := firstFailure (Eng.ofBytes (body.take 799)) (RawOp.ofBytes (body.drop 799))
       judged.read = some (body.take 799) ∧
       (crc ≠ crcBytes (header ++ body) → judged.result = .badCrc ∧ judged.failure = none ∧ judged.parts = none) ∧
       (∀ f, crc = crcBytes (header ++ body) → failure = some f →
         judged.result = .checkFailed ∧ judged.failure = some f ∧ judged.parts = none) ∧
       (crc = crcBytes (header ++ body) → failure = none →
         judged.result = .good ∧ judged.failure = none ∧ judged.parts.map (·.1) = some (Eng.ofBytes (body.take 799))))) ∧
  (∀ s : State,
     (∀ e o, s.store.state = .loading → s.store.loaded = some (e, o) → ∃ t, exec .enterSupervising s = .next t ∧
       t.store.state = .supervising ∧ t.store.eng = some e ∧ t.latched .config ∧ t.latched .floorMode ∧ t.latched .zone ∧
       t.floors.table.length = e.floorCount ∧
       (∀ f ∈ t.floors.table, f.mode = (if s.generalAlarm then .fire else .closed) ∧
         f.cause = (if s.generalAlarm then some .general else none) ∧ f.lit = true) ∧
       (∀ z ∈ t.floors.zones, z.alarm = false) ∧ t.drive = s.drive ∧ t.tracker = s.tracker ∧
       t.shutters.table.length = e.shutterCount ∧
       (∀ sh ∈ t.shutters.table, sh.state = .unknown ∧ sh.hold = false) ∧
       t.bells.lines.map (·.num) = List.range e.floorCount ++ [8] ∧ (∀ l ∈ t.bells.lines, l.faulted = false) ∧
       t.bells.calls = [] ∧ t.loop.good = false ∧ t.faults = s.faults ∧ t.clock = s.clock ∧ t.planAtStart s.plan t.plan ∧
       (s.clock.isSet = true → ∀ x ∈ t.store.op.exceptions, s.clock.count / 86400 ≤ x.day)) ∧
     ((s.store.state ≠ .loading ∨ s.store.loaded = none) → exec .enterSupervising s = .next s))

/-- A well-formed frame on the line does what the request it carries does, for every request and every value of its fields
(R177, R179, 11.4).

A frame of a KIND that the part does not have, and one whose LEN is none that 11.4 gives for its KIND, is answered
REFUSED_FORMAT and changes nothing (R180). The receiver is HUNTING before the frame: what a request given as its own row does to a
receiver in COLLECTING is the model's choice (notes/assumptions/41.md). -/
def Obligations.FrameCarriesRequest : Prop :=
  (∀ (i : Instr) (l : LinkId) (kind : Nat) (payload : List Byte) (s : State),
     i.wf = true → i.request? = some (l, kind, payload) → payload.length ≤ 60 → s.listening l = true →
     (s.link l).receiver = .hunting →
     exec (.requestFrame l (frameBytes kind payload)) s = exec i s) ∧
  (∀ (l : LinkId) (kind : Nat) (payload : List Byte) (s : State), kind < 256 → payload.length ≤ 60 → s.listening l = true →
     (s.link l).receiver = .hunting →
     let refused := ∃ t, exec (.requestFrame l (frameBytes kind payload)) s = .next t ∧
       s.answeredOnly l kind .refusedFormat [] t
     let n := payload.length
     (kind = 0 ∨ (20 < kind ∧ kind < 32) ∨ (44 < kind ∧ kind < 48) ∨ (49 < kind ∧ kind < 64) ∨ 75 < kind → refused) ∧
     (kind ∈ [9, 13, 19, 20, 37, 38, 44, 48, 49, 64, 65, 67, 72, 74, 75] → n ≠ 0 → refused) ∧
     (kind ∈ [1, 2, 3, 4, 5, 6, 8, 10, 11, 12, 16, 17, 18, 36, 40, 41, 43, 66, 68, 69] → n ≠ 1 → refused) ∧
     (kind ∈ [7, 14, 15, 70, 71] → n ≠ 2 → refused) ∧ (kind = 32 → n ≠ 4 → refused) ∧ (kind = 33 → n ≠ 5 → refused) ∧
     (kind ∈ [34, 42] → n ≠ 8 → refused) ∧ (kind = 35 → n < 5 ∨ 12 < n → refused) ∧
     (kind = 39 → n < 4 ∨ 34 < n ∨ n % 2 = 1 → refused) ∧ (kind = 73 → n < 4 → refused))

/-- The first check that fails decides the reply, and a request refused by the checks changes nothing beyond the refreshed
supervision and carries no payload (R180, R181).

The authority of a link by KIND (R181, 11.4): every link has the reads and the event requests, 1 to 15; link F the fire requests, 16
to 20; link O the office requests, 32 to 44; links O and E PATERNOSTER_STOP and CONFIG_SAVE, 48 and 49; link E 64 to 75; and no link
any other. In LOADING the part takes 1 to 15, in UNCONFIGURED these with CONFIG_SAVE and the four requests of an edit session, 49
and 72 to 75, and in SUPERVISING every one (R180). -/
def Obligations.RequestChecks : Prop :=
  (∀ (i : Instr) (l : LinkId) (kind : Nat) (payload : List Byte) (s : State),
     i.wf = true → i.request? = some (l, kind, payload) → s.listening l = true →
     (lengthOk kind payload.length = false →
       ∃ t, exec i s = .next t ∧ s.answeredOnly l kind .refusedFormat [] t) ∧
     (lengthOk kind payload.length = true → authority l kind = false →
       ∃ t, exec i s = .next t ∧ s.answeredOnly l kind .refusedAuthority [] t) ∧
     (lengthOk kind payload.length = true → authority l kind = true → configTakes s.store.state kind = false →
       ∃ t, exec i s = .next t ∧ s.answeredOnly l kind .refusedUnconfigured [] t)) ∧
  (∀ kind : Nat,
     let reads := 1 ≤ kind ∧ kind ≤ 15
     let stopOrSave := kind = 48 ∨ kind = 49
     (authority .F kind = true ↔ reads ∨ (16 ≤ kind ∧ kind ≤ 20)) ∧
     (authority .O kind = true ↔ reads ∨ (32 ≤ kind ∧ kind ≤ 44) ∨ stopOrSave) ∧
     (authority .E kind = true ↔ reads ∨ stopOrSave ∨ (64 ≤ kind ∧ kind ≤ 75)) ∧
     (configTakes .loading kind = true ↔ reads) ∧
     (configTakes .unconfigured kind = true ↔ reads ∨ kind = 49 ∨ (72 ≤ kind ∧ kind ≤ 75)) ∧
     configTakes .supervising kind = true)

/-- What the receiver discards in COLLECTING (R178): each case returns it to HUNTING and counts an error, saturating at 255, but
for an address character of the station, which starts a new frame.

The address character and the data characters of a frame make that frame (R177). -/
def Obligations.CharactersAndFrames : Prop :=
  (∀ (l : LinkId) (got : List Byte) (s : State), (s.link l).receiver = .collecting got → (s.link l).driverOn = false →
     let k := { s.link l with startBitSeen := (s.link l).startBitSeen || (s.link l).sending == .waiting }
     let discarded := fun (k : Link) => { k with receiver := .hunting, errorCount := min 255 (k.errorCount + 1) }
     (∃ t, exec (.interCharacterTimeout l) s = .next t ∧ s.linkBecomes l (discarded (s.link l)) t) ∧
     (∀ mark b, ∃ t, exec (.characterReceived l mark b false) s = .next t ∧ s.linkBecomes l (discarded k) t) ∧
     (∀ b : Byte, b.toNat ≠ s.links.address → ∃ t, exec (.characterReceived l true b true) s = .next t ∧
       s.linkBecomes l (discarded k) t) ∧
     (∀ b : Byte, b.toNat = s.links.address → ∃ t, exec (.characterReceived l true b true) s = .next t ∧
       s.linkBecomes l { k with receiver := .collecting [] } t) ∧
     (got = [] → ∀ b : Byte, 60 < b.toNat → ∃ t, exec (.characterReceived l false b true) s = .next t ∧
       s.linkBecomes l (discarded k) t) ∧
     (s.links.address ≠ 0 → ∀ body : List Byte, ∀ crc : List Byte, crc.length = 2 → crc ≠ crcBytes body →
       ∃ t, exec (.requestFrame l (body ++ crc)) s = .next t ∧ s.linkBecomes l (discarded (s.link l)) t)) ∧
  (∀ (l : LinkId) (f : List Byte) (s : State),
     s.listening l = true → s.links.address < 32 → (s.link l).receiver = .hunting → (s.link l).sending = .idle →
     (f.getD 0 0).toNat ≤ 60 → f.length = (f.getD 0 0).toNat + 4 →
     execAll (.characterReceived l true (BitVec.ofNat 8 s.links.address) true :: f.map fun b => .characterReceived l false b true) s
       = exec (.requestFrame l f) s)

/-- How a reply is sent or abandoned (R182, R183): tested when due, the driver enabled for the lead, the characters and the
tail, the receiver disabled meanwhile. That the byte KIND + 128 of the reply to a KIND of 128 or above is sent modulo 256 is the model's
choice (notes/assumptions/44.md). -/
def Obligations.RepliesAreSent : Prop :=
  ∀ (l : LinkId) (s : State),
    let k := s.link l
    (k.sending = .waiting → k.startBitSeen = true → ∃ t, exec (.replyDue l) s = .next t ∧
      s.linkBecomes l
        { k with reply := none, sending := .idle, abandonedCount := min 255 (k.abandonedCount + 1), startBitSeen := false } t) ∧
    (k.sending = .waiting → k.startBitSeen = false → ∃ t, exec (.replyDue l) s = .next t ∧
      s.linkBecomes l { k with sending := .lead, receiver := .hunting } t ∧ (t.link l).driverOn = true ∧
      t.listening l = false) ∧
    (∀ r, k.sending = .lead → k.reply = some r → ∃ t, exec (.replyLeadEnd l) s = .next t ∧
      s.linkBecomes l { k with
        sending := .sending
        onLine :=
          let body := be 1 r.payload.length ++ be 1 (r.kind + 128) ++ be 1 r.status.code ++ r.payload
          ⟨true, 0⟩ :: (body ++ crcBytes body).map fun b => ⟨false, b⟩ } t) ∧
    (k.sending = .sending → ∃ t, exec (.replySendDone l) s = .next t ∧
      s.linkBecomes l { k with sending := .tail, onLine := [] } t ∧ (t.link l).driverOn = true) ∧
    (k.sending = .tail → ∃ t, exec (.replyTailEnd l) s = .next t ∧
      s.linkBecomes l { k with sending := .idle, reply := none, receiver := .hunting } t ∧ (t.link l).driverOn = false) ∧
    (∃ t, exec (.lineStartBitSeen l) s = .next t ∧
      s.linkBecomes l { k with startBitSeen := k.startBitSeen || k.sending == .waiting } t)

/-- A supervised link that is not LOST becomes LOST: LINK_LOST is raised with the link as source (R184). The loss of the fire or
the office link changes no other state; the loss of the engine-room link ends inching and discards an edit session (R185).

A valid frame makes the link ACTIVE and restarts its count, whatever becomes of its request. On a QUIET or a LOST link that is a change
of state, which sets LINK_STATE on every link, and the return of a LOST link makes the LINK_LOST record of this link CLEARED; no other
record changes (R184, R18). So it is with the refresh of the supervision that every other statement about a request takes as done, with a
request that is answered as a read and with one that is refused for its KIND. -/
def Obligations.SupervisionExpires : Prop :=
  (∀ (l : LinkId) (s : State), s.hearsFrame l (refresh l s) ∧
     (s.listening l = true →
       (∀ c, c = .readEvents l ∨ c = .readClock l ∨ c = .requestFrame l ([0, 0] ++ crcBytes [0, 0]) →
         ∃ t, exec c s = .next t ∧ s.hearsFrame l t))) ∧
  ∀ (l : LinkId) (s : State), s.supervised l = true → (s.link l).state ≠ .lost →
    let lost := s.modLink l fun k => { k with state := .lost }
    ∃ t, exec (.linkSupervisionExpiry l) s = .next t ∧ (t.link l).state = .lost ∧ t.latched .linkState ∧
      (s.faults.records.length < 32 → t.faults.active .linkLost (linkCode l)) ∧
      (l ≠ .E → lost.actsOn [.faults, .bells, .loop] t ∧ t.faults = s.faults.raise .linkLost (linkCode l) s.clock.count) ∧
      (l = .E → s.drive.state ≠ .inch → lost.actsOn [.faults, .bells, .loop, .store] t ∧
        t.faults = s.faults.raise .linkLost (linkCode l) s.clock.count) ∧
      (l = .E → t.store = { s.store with shadow := none } ∧ (s.store.shadow ≠ none → t.latched .config)) ∧
      (l = .E → s.drive.state = .inch → t.drive.stopCause = some .inchEnd ∧ t.drive.inch = none ∧ t.drive.released = false ∧
        t.drive.vRef = 0 ∧ (t.drive.state = .brake ∧ t.drive.brakeExit = some (s.drive.inchOrigin.getD .off) ∨
          t.drive.state = .off ∨ t.drive.state = .halt) ∧
        t.clock = s.clock ∧ t.plan = s.plan ∧ t.announce = s.announce ∧ lost.linksTakeEvents t)

/-- An event set by a block: on every link a clear latch becomes set and its companion stays, and a set latch sets its
companion; nothing else of the latches, the links or the part changes but the attention line (R186).

The attention line after an event, an acknowledgement or a mask (R188): RELEASED it becomes ASSERTED where a latched, unmasked event
has come to exist, ASSERTED it enters HOLDOFF with 10 ms to run where none remains, and HOLDOFF stays. At the end of HOLDOFF it is
ASSERTED where such an event exists, and RELEASED otherwise; in any other state that end changes nothing. -/
def Obligations.EventsAndHoldoff : Prop :=
  (∀ (e : Event) (s : State),
     s.keepsAllBut [.links] (setEvent e s) ∧ s.linksTakeEvents (setEvent e s) ∧
     (∀ l, (s.link l).attentionFollows ((setEvent e s).link l)) ∧
     ∀ l (n : Nat), n < 16 →
       ((setEvent e s).link l).mask = (s.link l).mask ∧
       ((setEvent e s).link l).latches.getLsbD n = ((s.link l).latches.getLsbD n || n == e.bit) ∧
       ((setEvent e s).link l).companions.getLsbD n =
         ((s.link l).companions.getLsbD n || (n == e.bit && (s.link l).latches.getLsbD n))) ∧
  (∀ (l : LinkId) (n : Nat) (s : State), (s.link l).attention = .holdoff n →
     ∃ t, exec (.attentionHoldoffEnd l) s = .next t ∧
       ((∃ b, b < 16 ∧ (s.link l).latches.getLsbD b = true ∧ (s.link l).mask.getLsbD b = false) →
         s.linkBecomes l { s.link l with attention := .asserted } t) ∧
       ((∀ b, (s.link l).latches.getLsbD b = true → (s.link l).mask.getLsbD b = true) →
         s.linkBecomes l { s.link l with attention := .released } t)) ∧
  (∀ (l : LinkId) (s : State), (∀ n, (s.link l).attention ≠ .holdoff n) → exec (.attentionHoldoffEnd l) s = .next s) ∧
  (∀ (l : LinkId) (s : State), s.listening l = true →
     (∀ set, ∃ t, exec (.ackEvents l set) s = .next t ∧ ((refresh l s).link l).attentionFollows (t.link l)) ∧
     (∀ mask, ∃ t, exec (.setEventMask l mask) s = .next t ∧ ((refresh l s).link l).attentionFollows (t.link l)))

/-- Every step keeps the attention lines in agreement with the latches and the masks (R188). -/
def Obligations.AttentionAgreesAlways : Prop :=
  ∀ s t : State, s.attentionAgrees → step s = .next t → t.attentionAgrees

/-- The invariants hold at reset, and power-on with the usual pins (notes/assumptions/1.md) is `State.reset`. -/
def Obligations.ResetKeepsInvariants : Prop :=
  State.reset.attentionAgrees ∧ State.reset.faults.wf ∧ State.reset.brakeAgrees ∧ State.reset.lampsAgree ∧ State.reset.sized ∧
    State.reset.shutters.listsAgree ∧ State.reset.announce.evacSlot ∧ State.reset.soundQueuesLawful ∧
    State.reset.announce.queueLawful ∧ State.reset.paramsBounded ∧ State.reset.speedBounded ∧ State.reset.driveLawful ∧
    State.reset.shuttersLawful ∧ exec (.powerOnReset Pins.usual) State.reset = .next State.reset

/-- The event requests (R187). -/
def Obligations.EventRequests : Prop :=
  ∀ (l : LinkId) (s : State), s.listening l = true →
    let k := (refresh l s).link l
    (∃ t, exec (.readEvents l) s = .next t ∧ s.keepsAllBut [.links, .faults] t ∧ t.faults = (refresh l s).faults ∧
      t.replies l 13 .accepted
        (be 2 k.latches.toNat ++ be 2 k.companions.toNat ++ be 2 k.mask.toNat ++ be 1 k.attention.code) ∧
      (t.link l).companions = 0 ∧ (t.link l).latches = k.latches ∧ (t.link l).mask = k.mask ∧
      (t.link l).attention = k.attention ∧ ∀ m, m ≠ l → t.link m = (refresh l s).link m) ∧
    (∀ set, ∃ t, exec (.ackEvents l set) s = .next t ∧ s.keepsAllBut [.links, .faults] t ∧ t.faults = (refresh l s).faults ∧
      t.replies l 14 .accepted (be 2 (t.link l).latches.toNat ++ be 2 (t.link l).companions.toNat) ∧
      (t.link l).mask = k.mask ∧ (∀ m, m ≠ l → t.link m = (refresh l s).link m) ∧
      ∀ n, n < 16 →
        ((t.link l).latches.getLsbD n = (k.latches.getLsbD n && !(set.getLsbD n && !k.companions.getLsbD n))) ∧
        ((t.link l).companions.getLsbD n = (k.companions.getLsbD n && !(set.getLsbD n && k.latches.getLsbD n)))) ∧
    (∀ mask, ∃ t, exec (.setEventMask l mask) s = .next t ∧ s.keepsAllBut [.links, .faults] t ∧
      t.faults = (refresh l s).faults ∧ t.replies l 15 .accepted (be 2 mask.toNat) ∧ (t.link l).mask = mask ∧
      (t.link l).latches = k.latches ∧ (t.link l).companions = k.companions ∧
      ∀ m, m ≠ l → t.link m = (refresh l s).link m)

/-- The reads of the plant, in every state of the part and from any link: each reply carries the fields that 11.4 gives its part,
with the values as they stand, and nothing changes but that READ_LINK with 1 clears the two counts of the requesting link, which keeps
its latches, companions, mask and attention line (R13, R21, R38, R66, R94, R174, R189, R200). The widths and the codes of flags that
11.2 and 11.4 leave open are the model's (notes/assumptions/5.md, notes/assumptions/6.md), and so is what a LOST link shows as its
time left (notes/assumptions/40.md). -/
def Obligations.ReadsChangeNothing : Prop :=
  ∀ (l : LinkId) (n : Nat) (s : State), s.listening l = true →
    let r := refresh l s
    let answers := fun (c : Instr) (kind : Nat) (st : Status) (payload : List Byte) =>
      ∃ t, exec c s = .next t ∧ s.answeredOnly l kind st payload t
    let sources := be 1 (flag s.floors.gaFlag) ++ be 1 (flag s.floors.inputAlarm)
      ++ be 1 (flag (s.floors.gaFlag || s.floors.inputAlarm))
    let d := s.drive
    let k := s.tracker
    let landings := fun (first : Nat) => (((s.eng.landings.take (2 * s.eng.floorCount)).drop first).take 8).flatMap fun x =>
      be 4 x ++ be 1 (s.carAt x).1 ++ be 2 (s.carAt x).2
    let links := be 1 s.links.address ++ be 1 (match l with | .F => 0 | .O => 1 | .E => 2) ++
      ([LinkId.F, .O, .E].flatMap fun m =>
        let g := s.linkCfg m
        let x := r.link m
        be 1 x.rate ++ be 1 x.state.code ++ be 1 g.supervision
          ++ optField 1 (if s.supervised m then some ((g.supervision * 1000 - x.sinceFrame) / 1000) else none)
          ++ be 1 g.lead ++ be 1 g.tail ++ be 1 x.errorCount ++ be 1 x.abandonedCount ++ be 2 x.mask.toNat
          ++ be 1 x.attention.code)
    (answers (.readFloors l 0) 1 .accepted (be 1 s.floors.table.length ++ be 1 (flag s.floors.silence)
      ++ s.floors.table.flatMap fun f => be 1 f.mode.code ++ optField 1 (f.cause.map FireCause.code)
        ++ be 1 f.closingPosition ++ be 1 (if f.lit then 0 else 1)) ∧
     answers (.readFloors l 1) 1 .accepted (s.floors.table.flatMap fun f => be 4 f.modeSince) ∧
     (1 < n → answers (.readFloors l n) 1 .refusedRange [])) ∧
    ((n < 2 → answers (.readZones l n) 2 .accepted (sources ++ ((s.floors.zones.drop (8 * n)).take 8).flatMap fun z =>
       be 1 (if z.alarm then 1 else 0) ++ be 1 z.floor ++ be 4 z.since)) ∧
     (1 < n → answers (.readZones l n) 2 .refusedRange sources)) ∧
    (answers (.readPaternoster l 0) 3 .accepted (be 1 d.state.code ++ be 2 d.vRef ++ be 1 (if d.released then 1 else 0)
      ++ be 1 (if d.enable then 0 else 1) ++ be 1 (if d.reverse then 0 else 1) ++ optField 1 (d.brakeExit.map Rest.code)
      ++ optField 1 (d.stopCause.map StopCause.code) ++ optField 1 (d.haltCause.map FaultKind.code)
      ++ optField 2 (d.warningLines.map setBits) ++ optField 4 d.lastrunTravel ++ be 1 d.overspeedCount ++ be 1 d.stallCount
      ++ be 2 d.sinceRelease ++ optField 1 (d.inch.map fun i => i.direction.code) ++ optField 1 (d.inchOrigin.map Rest.code)
      ++ optField 2 (d.inch.map fun i => i.lease) ++ optField 1 (d.inch.map fun i => flag i.started)
      ++ be 2 (d.vRef * 1023 / s.eng.vFull) ++ be 1 (flagBits s.startConditions)) ∧
     (∀ v, d.level = some v → answers (.readPaternoster l 1) 3 .accepted (be 2 v.vNow ++ be 4 v.dReq ++ be 4 v.r0 ++ be 4 v.r
       ++ be 1 v.phase.code ++ optField 2 v.deadline ++ be 2 v.overrun)) ∧
     (d.level = none → answers (.readPaternoster l 1) 3 .accepted (List.replicate 19 0xFF)) ∧
     answers (.readPaternoster l 2) 3 .accepted (be 4 k.counter ++ be 1 k.direction.code ++ be 1 (flag k.referenced)
       ++ be 4 k.travel ++ optSigned 4 k.lastDeviation ++ optSigned 4 k.lastCorrection ++ be 1 k.errorCount
       ++ be 2 k.measuredSpeed ++ be 1 (if k.still then 0 else 1) ++ be 2 k.quietTime ++ be 2 k.brakeAppliedTime
       ++ be 1 (flag s.chainLevel)) ∧
     answers (.readPaternoster l 3) 3 .accepted (landings 0) ∧ answers (.readPaternoster l 4) 3 .accepted (landings 8) ∧
     (4 < n → answers (.readPaternoster l n) 3 .refusedRange [])) ∧
    (answers (.readShutters l 255) 4 .accepted (be 1 s.shutters.table.length ++ be 1 s.shutters.slots.length
      ++ (s.shutters.slots.flatMap fun g => optField 1 (g.map fun x => x.shutter) ++ optField 4 (g.map fun x => x.elapsed))
      ++ s.shutters.waitList.flatMap fun i => be 1 (if s.shutterState? i = some (.waitSlot .down) then i + 128 else i)) ∧
     (n < 32 → answers (.readShutters l n) 4 .accepted (((s.shutters.table.zipIdx.drop n).take 3).flatMap fun p =>
       be 1 p.1.state.code ++ optField 1 (p.1.state.wanted?.map Travel.code)
         ++ optField 1 (p.1.state.purpose?.map WaitPurpose.code) ++ be 1 (if p.1.hold then 0 else 1)
         ++ be 1 (flag p.1.releasePending) ++ be 1 p.1.state.motorCode
         ++ optField 1 ((s.shutters.slots.findIdx? fun g => g.any fun x => x.shutter == p.2).map (· + 1))
         ++ optField 4 p.1.state.timer? ++ be 4 p.1.since ++ be 1 (flag p.1.inhibitedByRequest)
         ++ be 1 (flag (s.openLimit p.2)) ++ be 1 (flag (s.closedLimit p.2)) ++ be 1 (flag (s.dropDemand p.2)))) ∧
     (31 < n → n ≠ 255 → answers (.readShutters l n) 4 .refusedRange [])) ∧
    ((n < 32 → answers (.readFaults l n) 8 .accepted (be 1 (flag r.faults.full) ++ be 1 r.faults.records.length ++ be 1 n
       ++ ((r.faults.records.drop n).take 4).flatMap fun x => be 1 x.kind.code ++ be 1 x.source ++ be 4 x.firstRaised
         ++ be 4 x.lastRaised ++ be 1 x.occurrences ++ be 1 (if x.active then 0 else 1))) ∧
     (31 < n → answers (.readFaults l n) 8 .refusedRange
       (be 1 (flag r.faults.full) ++ be 1 r.faults.records.length ++ be 1 n))) ∧
    ((n < 2 → s.analog.length = 6 → answers (.readAnalog l n) 11 .accepted (((s.analog.zipIdx.drop (3 * n)).take 3).flatMap fun p =>
       be 2 p.1.reading ++ be 2 (s.chanCfg p.2).low ++ be 2 (s.chanCfg p.2).high ++ be 1 (s.chanCfg p.2).k
         ++ be 1 (s.chanCfg p.2).h ++ be 1 p.1.window.code ++ be 1 p.1.above ++ be 1 p.1.below ++ be 1 (flag p.1.evaluated)
         ++ optField 2 p.1.blanking)) ∧
     answers (.readAnalog l 2) 11 .accepted (be 1 (if s.loop.good then 0 else 1)
       ++ optField 1 (s.store.eng.map fun e => e.modules) ++ be 1 s.loop.badRun ++ be 2 s.loop.scanCount ++ be 2 s.loop.badScans
       ++ (List.range s.eng.modules).flatMap fun m => be 1 (flagBits ((s.loop.debounced.drop (8 * m)).take 8))
         ++ be 1 (flagBits ((s.loop.out.drop (8 * m)).take 8))) ∧
     (2 < n → answers (.readAnalog l n) 11 .refusedRange [])) ∧
    (answers (.readLink l 0) 12 .accepted links ∧ (1 < n → answers (.readLink l n) 12 .refusedRange links) ∧
     (∃ t, exec (.readLink l 1) s = .next t ∧ t.replies l 12 .accepted links ∧ s.keepsAllBut [.links, .faults] t ∧
       t.faults = r.faults ∧ t.links.address = s.links.address ∧
       t.link l = { r.link l with
         errorCount := 0, abandonedCount := 0, reply := some ⟨12, .accepted, links⟩, sending := .waiting, startBitSeen := false } ∧
       ∀ m, m ≠ l → t.link m = r.link m))

/-- The reads of the bells, the announcements, the clock and the plan, in every state of the part and from any link: each reply
carries the fields that 11.4 gives its part, with the values as they stand, and nothing changes (R118, R119, R126, R142, R159,
R200). The last byte of a call entry is a free value (notes/assumptions/3.md); the widths and the codes of flags that 11.2 and
11.4 leave open are the model's (notes/assumptions/5.md, notes/assumptions/6.md), as are the values with no engineering part
(notes/assumptions/23.md). -/
def Obligations.StoreReads : Prop :=
  ∀ (l : LinkId) (n slot : Nat) (s : State), s.listening l = true →
    let answers := fun (c : Instr) (kind : Nat) (st : Status) (payload : List Byte) =>
      ∃ t, exec c s = .next t ∧ s.answeredOnly l kind st payload t
    let calls := be 1 s.eng.nRepeat ++ be 2 s.eng.tRepeat ++ be 1 s.bells.calls.length
    let request := fun (q : SoundReq) => be 1 q.cls.code ++ be 1 q.code ++ optField 2 q.callId
    let entries := fun (first : Nat) => ((s.announce.queue.drop first).take 4).flatMap fun q =>
      be 1 q.slot ++ be 1 q.cls.code ++ be 4 q.queuedAt ++ optField 2 q.gap
    let air := match s.announce.playout with
      | some p => be 1 p.slot ++ be 1 p.cls.code ++ be 4 p.queuedAt ++ be 4 p.startedAt ++ be 1 (setBits p.floors)
          ++ be 1 p.phase.code ++ be 1 p.phraseIndex ++ be 1 p.phrasesSent ++ be 1 p.missing ++ be 1 (flag p.cancelled)
          ++ optField 1 (p.outcome.map PlayOutcome.code) ++ optField 1 (p.outcome.map fun _ => flag p.returned)
      | none => List.replicate 18 0xFF
    let port := be 1 s.announce.port.state.code ++ be 2 s.announce.port.missingCount
      ++ optField 1 (s.announce.port.faultCause.map PortCause.code)
    let last := match s.announce.last with
      | some p => be 1 p.slot ++ be 1 p.cls.code ++ be 4 p.startedAt ++ be 4 p.endedAt ++ be 1 p.phrasesSent ++ be 1 p.missing
          ++ optField 1 (p.outcome.map PlayOutcome.code) ++ be 1 (flag p.returned)
      | none => List.replicate 14 0xFF
    let copy := fun (c : Option Copy) => match c with
      | some c => be 1 c.phrases.length ++ be 1 c.mask ++ c.phrases.flatMap (be 2)
      | none => [0xFF, 0xFF]
    let closing := fun (c : Option Nat) => be 4 (c.getD 0xFFFFFFFF)
    let exceptions := fun (first count : Nat) => ((s.store.op.exceptions.drop first).take count).flatMap fun x =>
      be 4 x.day ++ closing x.closing
    let p := s.plan
    let o := s.store.op
    let close := p.baseClose.getD 0 + 60 * p.holdTotal
    let trim : Int := match s.store.eng with | some e => e.trim | none => 0
    let epoch : Nat := match s.store.eng with | some e => e.epoch | none => 0
    let day := s.clock.count / 86400
    ((n < 24 → answers (.readCalls l n) 5 .accepted (calls ++ ((s.bells.calls.drop n).take 2).flatMap fun c =>
       be 2 c.callId ++ be 1 c.callPoint ++ be 1 c.code ++ be 4 c.raisedAt ++ be 1 c.presses ++ be 1 c.roundsDone
         ++ optField 4 c.nextDue ++ optField 2 (c.roundLines.map setBits) ++ be 1 c.state.code ++ optField 1 c.answeredFloor
         ++ optField 4 c.endedAt ++ be 1 (s.eng.callPoints.getD c.callPoint ⟨0, 0, 0⟩).floor ++ [Config.callEntryPad])) ∧
     (23 < n → answers (.readCalls l n) 5 .refusedRange calls)) ∧
    ((∀ k, s.line? n = some k → answers (.readBellLines l n) 6 .accepted (be 1 (if k.faulted then 1 else 0)
       ++ be 1 k.activity.code ++ be 1 (if k.drive then 0 else 1) ++ be 1 k.faultyRun
       ++ (match k.activity with
           | .pattern c => request c.req ++ be 2 c.elapsed
           | _ => List.replicate 6 0xFF)
       ++ be 1 k.queue.length ++ k.queue.flatMap request ++ optField 2 k.lastCall ++ be 1 (flag s.floors.silence))) ∧
     (s.line? n = none → answers (.readBellLines l n) 6 .refusedRange
       (List.replicate 13 0xFF ++ be 1 (flag s.floors.silence)))) ∧
    (let st := if slot ≤ 7 then Status.accepted else .refusedRange
     answers (.readQueue l 0 slot) 7 st (entries 0) ∧ answers (.readQueue l 1 slot) 7 st (entries 4) ∧
     answers (.readQueue l 2 slot) 7 st (air ++ port) ∧ answers (.readQueue l 3 slot) 7 st last ∧
     answers (.readQueue l 4 slot) 7 st (copy ((s.store.op.scripts[slot]?).join)) ∧
     answers (.readQueue l 5 slot) 7 st (copy ((s.announce.pendingCopies[slot]?).join)) ∧
     (5 < n → answers (.readQueue l n slot) 7 .refusedRange [])) ∧
    answers (.readClock l) 9 .accepted
      (be 4 s.clock.count ++ be 1 (if s.clock.isSet then 1 else 0) ++ be 4 day ++ be 4 (s.clock.count % 86400)
        ++ be 1 ((day + epoch) % 7) ++ be 1 (trim % 256).toNat ++ be 1 epoch ++ be 2 s.clock.prescaler) ∧
    (answers (.readPlan l 0) 10 .accepted (o.schedule.flatMap closing) ∧
     answers (.readPlan l 1) 10 .accepted (exceptions 0 7) ∧ answers (.readPlan l 2) 10 .accepted (exceptions 7 7) ∧
     answers (.readPlan l 3) 10 .accepted (exceptions 14 2) ∧
     (o.order.length ≤ 8 → answers (.readPlan l 4) 10 .accepted (be 1 o.w1 ++ be 1 o.w2 ++ be 2 o.stagger
       ++ (o.order.flatMap (be 1) ++ List.replicate (8 - o.order.length) 0xFF) ++ be 4 p.day ++ optField 4 p.baseClose
       ++ be 1 p.holdTotal ++ be 1 p.warn1.code ++ be 1 p.warn2.code ++ be 1 p.close.code ++ be 1 p.nextPosition
       ++ optField 2 (p.positionWait.map (· / 1000)) ++ be 1 p.status.code
       ++ (if p.status = .waiting then
             be 4 close ++ be 4 (close - 60 * o.w1) ++ be 4 (close - 60 * o.w2) ++ be 4 close
           else List.replicate 16 0xFF)
       ++ optField 1 (if p.status = .running then o.order[p.nextPosition]? else none) ++ be 1 (flag s.planCarried))) ∧
     (4 < n → answers (.readPlan l n) 10 .refusedRange []))

/-! ### Floors, zones, fire and the Fault Table -/

/-- A new zone alarm (R5, R2, R4): the zone becomes ALARM, the silence flag is cleared, and the zone's floor is in FIRE, newly
with cause ZONE or with ZONE among its causes; no other zone changes.

A repeated ZONE_ALARM is accepted and changes nothing, and a zone above 15 is refused (R2, R5). -/
def Obligations.ZoneAlarm : Prop :=
  (∀ (l : LinkId) (z : Nat) (x : Zone) (fl : Floor) (s : State), s.mayAsk l 16 → z ≤ 15 →
     s.floors.zones[z]? = some x → x.alarm = false → s.floors.table[x.floor]? = some fl →
     ∃ (t : State) (gl : Floor), exec (.zoneAlarm l z) s = .next t ∧ t.replies l 16 .accepted [1, 5] ∧ t.latched .zone ∧
       t.floors.zones[z]? = some { x with alarm := true, since := s.clock.count } ∧
       (∀ y, y ≠ z → t.floors.zones[y]? = s.floors.zones[y]?) ∧ t.floors.silence = false ∧
       t.floors.gaFlag = s.floors.gaFlag ∧ t.floors.table[x.floor]? = some gl ∧ gl.mode = .fire ∧
       gl.closingPosition = fl.closingPosition ∧
       (fl.mode ≠ .fire → gl.cause = some .zone ∧ gl.modeSince = s.clock.count ∧ t.latched .floorMode) ∧
       (fl.mode = .fire → gl.modeSince = fl.modeSince ∧
         gl.cause = some (if fl.cause = some .general ∨ fl.cause = some .both then .both else .zone)) ∧
       s.linksTakeRequest l t ∧ t.clock = s.clock ∧ t.pending = s.pending) ∧
  (∀ (l : LinkId) (z : Nat) (s : State), s.mayAsk l 16 →
     (∀ x fl, z ≤ 15 → s.floors.zones[z]? = some x → x.alarm = true → s.floors.table[x.floor]? = some fl →
       ∃ t, exec (.zoneAlarm l z) s = .next t ∧ s.answeredOnly l 16 .accepted ([1] ++ be 1 fl.mode.code) t) ∧
     (15 < z → ∃ t, exec (.zoneAlarm l z) s = .next t ∧ s.answeredOnly l 16 .refusedRange [0xFF, 0xFF] t))

/-- ZONE_CLEAR (R6). -/
def Obligations.ZoneClear : Prop :=
  ∀ (l : LinkId) (z : Nat) (s : State), s.mayAsk l 17 →
    (15 < z → ∃ t, exec (.zoneClear l z) s = .next t ∧ s.answeredOnly l 17 .refusedRange [0xFF, 0xFF] t) ∧
    (∀ x fl, z ≤ 15 → s.floors.zones[z]? = some x → s.floors.table[x.floor]? = some fl →
      ∃ t, exec (.zoneClear l z) s = .next t ∧ s.acceptedWith l 17 ([0] ++ be 1 fl.mode.code) [.floors] t ∧
        t.floors.zones[z]? =
          some (if x.alarm then { x with alarm := false, since := s.clock.count } else x) ∧
        (∀ y, y ≠ z → t.floors.zones[y]? = s.floors.zones[y]?) ∧
        t.floors = { s.floors with zones := t.floors.zones } ∧ (x.alarm = true → t.latched .zone))

/-- GENERAL_ALARM (R7, R3): a change of the flag that makes general alarm active brings every floor into FIRE; one that does not
leaves the floors and the silence flag; a repeat changes nothing; a frame whose field is neither on nor off is refused, with the reply
that the flag, the input and the general alarm give as they stand (notes/assumptions/26.md).

The hardwired fire input (R3): a change of level begins the 200 ms afresh, a level held for them becomes the debounced
state, and an input that so makes general alarm active brings every floor into FIRE. The bytes of
the replies, 1 for a flag set or an input in alarm, are the model's choice (notes/assumptions/5.md). -/
def Obligations.GeneralAlarmSources : Prop :=
  (∀ (l : LinkId) (s : State), s.mayAsk l 18 →
     let input : Byte := if s.floors.inputAlarm then 1 else 0
     (s.floors.gaFlag = false → s.floors.inputAlarm = false →
       ∃ t, exec (.generalAlarmOn l) s = .next t ∧ t.replies l 18 .accepted [1, 0, 1] ∧ t.latched .zone ∧
         t.floors.gaFlag = true ∧ t.floors.silence = false ∧ t.floors.zones = s.floors.zones ∧
         t.floors.table.length = s.floors.table.length ∧
         (∀ (f : Nat) (fl : Floor), s.floors.table[f]? = some fl → ∃ gl, t.floors.table[f]? = some gl ∧ gl.mode = .fire ∧
           (fl.mode ≠ .fire → gl.cause = some .general ∧ gl.modeSince = s.clock.count) ∧
           (fl.mode = .fire → gl.modeSince = fl.modeSince))) ∧
     (s.floors.gaFlag = false → s.floors.inputAlarm = true →
       ∃ t, exec (.generalAlarmOn l) s = .next t ∧ s.acceptedWith l 18 [1, 1, 1] [.floors] t ∧
         t.floors = { s.floors with gaFlag := true } ∧ t.latched .zone) ∧
     (s.floors.gaFlag = true → ∃ t, exec (.generalAlarmOn l) s = .next t ∧ s.answeredOnly l 18 .accepted [1, input, 1] t) ∧
     (s.floors.gaFlag = true → ∃ t, exec (.generalAlarmOff l) s = .next t ∧
       s.acceptedWith l 18 [0, input, input] [.floors] t ∧ t.floors = { s.floors with gaFlag := false } ∧ t.latched .zone) ∧
     (s.floors.gaFlag = false → ∃ t, exec (.generalAlarmOff l) s = .next t ∧
       s.answeredOnly l 18 .accepted [0, input, input] t) ∧
     (∀ v, 1 < v → v < 256 → (s.link l).receiver = .hunting → ∃ t, exec (.requestFrame l (frameBytes 18 (be 1 v))) s = .next t ∧
       s.answeredOnly l 18 .refusedRange
         [if s.floors.gaFlag then 1 else 0, input, if s.floors.gaFlag || s.floors.inputAlarm then 1 else 0] t)) ∧
  (∀ s : State,
     (∀ isOpen, isOpen ≠ s.floors.pinOpen → ∃ t, exec (.fireInputChange isOpen) s = .next t ∧ s.keepsAllBut [.floors] t ∧
       t.floors = { s.floors with pinOpen := isOpen, debounceLeft := some 200 }) ∧
     (exec (.fireInputChange s.floors.pinOpen) s = .next s) ∧
     (s.floors.debounceLeft = none → exec .fireInputDebounceEnd s = .next s) ∧
     (∀ n, s.floors.debounceLeft = some n → ∃ t, exec .fireInputDebounceEnd s = .next t ∧
       t.floors.inputAlarm = s.floors.pinOpen ∧ t.floors.debounceLeft = none ∧ t.floors.settled = true ∧
       t.floors.gaFlag = s.floors.gaFlag ∧ t.floors.zones = s.floors.zones ∧
       (s.floors.inputAlarm ≠ s.floors.pinOpen → t.latched .zone) ∧
       (s.floors.inputAlarm = s.floors.pinOpen ∨ s.floors.gaFlag = true ∨ s.floors.pinOpen = false →
         t.floors.table = s.floors.table ∧ t.floors.silence = s.floors.silence) ∧
       (s.floors.inputAlarm = false → s.floors.gaFlag = false → s.floors.pinOpen = true →
         ∀ f ∈ t.floors.table, f.mode = .fire)))

/-- A levelled stop begins, or the chain brakes, where a fire reaches a floor that was not in FIRE (R56): from RUN, ACCEL or
LASTRUN the cause is FIRE and the chain is in LEVEL or, already stopped, in OFF; WARNING ends in OFF; REFERENCE and INCH brake with
cause FIRE. A levelled stop in phase TRAVEL without a deadline keeps its target and r, and takes the fire deadline and the cause
FIRE; with a deadline that runs, in phase SETTLING, and in OFF, BRAKE and HALT, the drive does not change. That the drive takes the
fire before the shutters leave OPEN is the model's choice of the two orders that R72 allows (notes/assumptions/8.md); in the other
the drive brakes to HALT with PAT_SHUTTER_OPENED.

The fire deadline (R57): a stop still in phase TRAVEL brakes with cause FIRE_DEADLINE, its record becomes ENDED with r as it stood,
and FIRE_STOP_UNLEVELLED is raised. -/
def Obligations.FireStopsTheDrive : Prop :=
  (∀ (l : LinkId) (z : Nat) (x : Zone) (fl : Floor) (s : State), s.mayAsk l 16 → z ≤ 15 →
     s.floors.zones[z]? = some x → x.alarm = false → s.floors.table[x.floor]? = some fl → fl.mode ≠ .fire →
     ∃ t, exec (.zoneAlarm l z) s = .next t ∧
       (s.drive.state = .run ∨ s.drive.state = .accel ∨ s.drive.state = .lastrun →
         t.drive.stopCause = some .fire ∧ (t.drive.state = .level ∨ t.drive.state = .off) ∧
         (∀ v, t.drive.level = some v → v.phase = .travel → v.deadline = some (s.eng.fireDeadline * 1000))) ∧
       (s.drive.state = .warning → t.drive.state = .off) ∧
       (s.drive.state = .reference ∨ s.drive.state = .inch →
         t.drive.stopCause = some .fire ∧ t.drive.released = false ∧ t.drive.vRef = 0 ∧
           (t.drive.state = .brake ∧ t.drive.brakeExit = some .off ∨ t.drive.state = .off)) ∧
       (∀ v, s.drive.state = .level → s.drive.level = some v →
         (v.phase = .travel → v.deadline = none → t.drive = { s.drive with
           stopCause := some .fire, level := some { v with deadline := some (s.eng.fireDeadline * 1000) } }) ∧
         (v.phase = .travel → v.deadline ≠ none → t.drive = s.drive) ∧
         (v.phase = .settling → t.drive = s.drive)) ∧
       (s.drive.state = .off ∨ s.drive.state = .brake ∨ s.drive.state = .halt → t.drive = s.drive)) ∧
  (∀ s : State,
     (∀ v d, s.drive.state = .level → s.drive.level = some v → v.phase = .travel → v.deadline = some d →
       ∃ t, exec .fireDeadlineExpiry s = .next t ∧ t.drive.stopCause = some .fireDeadline ∧ t.drive.released = false ∧
         t.drive.enable = false ∧ t.drive.vRef = 0 ∧ t.drive.level = some { v with phase := .ended, deadline := none } ∧
         (t.drive.state = .brake ∧ t.drive.brakeExit = some .off ∨ t.drive.state = .off) ∧
         (s.faults.records.length < 32 → ∃ r ∈ t.faults.records, r.isOf .fireStopUnlevelled 0 = true)) ∧
     (s.drive.state ≠ .level → exec .fireDeadlineExpiry s = .next s))

/-- FIRE_SILENCE ends the fire ring (R8, R114): no line rings after it, a stroke of the ring that is on runs out as a tail, the
other ringing lines take up their queues (R110), and nothing more; with no floor in FIRE it is refused (R8).

FIRE_RESTORE leaves every floor that was in FIRE CLOSED and no floor in FIRE, and no line rings; it is refused while a zone or
the general alarm is in alarm (R9). Where a fire so ends, no EVAC entry stays in the playout queue (R154), and every PENDING call that
stands due begins its round (R114): the lines of its code's mask that are NORMAL and have room take its request and make up
round_lines, and a round that no line joins is complete at once (R106, R107). The calls have call_ids of their own (R104).

OPEN_STORE (R12): every CLOSED floor leaves CLOSED for OPENING or, its shutters done, for OPEN, and a floor in OPEN or
WARNED keeps its mode; each CLOSED shutter of such a floor, without a drop demand and the supply not low, joins the waiting list for UP
and may be granted a slot at once, and no other shutter changes but those that wait (R76); it is refused with a floor in FIRE or none
CLOSED. That a refused FIRE_RESTORE and a refused OPEN_STORE send their count and their set absent is the model's choice
(notes/assumptions/6.md). -/
def Obligations.SilenceAndRestore : Prop :=
  (∀ (l : LinkId) (s : State), s.mayAsk l 19 →
     (s.firePresent = true → s.floors.silence = false → ∃ t, exec (.fireSilence l) s = .next t ∧
       s.acceptedWith l 19 [] [.floors, .bells, .loop] t ∧ t.floors = { s.floors with silence := true } ∧
       t.ringApplies = false ∧ t.latched .zone ∧ t.bells.calls = s.bells.calls ∧
       ∀ (n : Nat) (k : Line), s.line? n = some k → ∃ x, t.line? n = some x ∧ (∀ y, x.activity ≠ .fire y) ∧
         ((∀ y, k.activity ≠ .fire y) → x = k) ∧
         (∀ y, k.activity = .fire y → k.drive = true → x = { k with activity := .tail }) ∧
         (∀ y, k.activity = .fire y → k.drive = false → k.faulted = true ∨ k.queue = [] → x = { k with activity := .idle }) ∧
         (∀ y q qs, k.activity = .fire y → k.drive = false → k.faulted = false → k.queue = q :: qs → x = { k with
           activity := .pattern ⟨q, ((s.store.op.codes[q.code - 1]?).map (·.groups)).getD [], 0, 0, 0, 0⟩
           queue := qs, drive := true, strokeLeft := 80 })) ∧
     (s.firePresent = true → s.floors.silence = true → ∃ t, exec (.fireSilence l) s = .next t ∧
       s.answeredOnly l 19 .accepted [] t) ∧
     (s.firePresent = false → ∃ t, exec (.fireSilence l) s = .next t ∧ s.answeredOnly l 19 .refusedState [] t)) ∧
  (∀ (l : LinkId) (s : State), s.mayAsk l 20 →
     ((∀ z ∈ s.floors.zones, z.alarm = false) → s.floors.gaFlag = false → s.floors.inputAlarm = false →
       ∃ t, exec (.fireRestore l) s = .next t ∧
         t.replies l 20 .accepted (be 1 (s.floors.table.countP fun f => f.mode == .fire)) ∧ t.firePresent = false ∧
         (s.firePresent = true → t.floors.silence = false ∧ t.latched .floorMode ∧
           ∀ (n : Nat) (x : Line), t.line? n = some x → ∀ y, x.activity ≠ .fire y) ∧
         (∀ (f : Nat) (fl : Floor), s.floors.table[f]? = some fl → fl.mode = .fire → ∃ gl, t.floors.table[f]? = some gl ∧
           gl.mode = .closed ∧ gl.cause = none ∧ gl.modeSince = s.clock.count) ∧
         (s.firePresent = true → (∀ q ∈ t.announce.queue, q.cls ≠ .evac) ∧
           ((s.bells.calls.map (·.callId)).Nodup → ∀ c ∈ s.bells.calls, c.state = .pending → c.nextDue = some 0 →
             let due := s.bells.calls.countP fun x => x.state == .pending && x.nextDue == some 0
             let inMask := fun (n : Nat) => ((s.store.op.codes.getD (c.code - 1) ⟨[], 0⟩).mask).testBit n = true
             let completed := if c.roundsDone + 1 = s.eng.nRepeat
               then { c with
                 roundsDone := c.roundsDone + 1, roundLines := none, nextDue := none, state := .expired, endedAt := some s.callStamp }
               else { c with
                 roundsDone := c.roundsDone + 1, roundLines := none, nextDue := some (s.eng.tRepeat * 1000) }
             (completed ∈ t.bells.calls ∧ ∀ k ∈ s.bells.lines, inMask k.num → s.line? k.num = some k →
                 k.faulted = true ∨ 8 < k.queue.length + due) ∨
               ∃ ls, ls ≠ [] ∧ { c with roundLines := some ls } ∈ t.bells.calls ∧
                 (∀ n ∈ ls, inMask n ∧ ∃ k, t.line? n = some k ∧ k.faulted = false ∧
                   ((∃ r ∈ k.queue, r.callId = some c.callId) ∨ ∃ r, k.current? = some r ∧ r.callId = some c.callId)) ∧
                 ∀ (n : Nat) (k : Line), inMask n → s.line? n = some k → k.faulted = false → k.queue.length + due ≤ 8 → n ∈ ls)) ∧
         t.floors.zones = s.floors.zones ∧ (s.firePresent = false → s.answeredOnly l 20 .accepted [0] t)) ∧
     ((∃ z ∈ s.floors.zones, z.alarm = true) ∨ s.floors.gaFlag = true ∨ s.floors.inputAlarm = true →
       ∃ t, exec (.fireRestore l) s = .next t ∧ s.answeredOnly l 20 .refusedState [0xFF] t)) ∧
  (∀ (l : LinkId) (s : State), s.mayAsk l 38 →
     (s.firePresent = false → (∃ f ∈ s.floors.table, f.mode = .closed) → ∃ t, exec (.openStore l) s = .next t ∧
       t.replies l 38 .accepted (be 1 ((((List.range s.floors.table.length).filter fun f =>
         s.floorMode? f == some .closed).map (2 ^ ·)).sum)) ∧
       t.latched .floorMode ∧ t.plan = s.plan ∧ t.clock = s.clock ∧ t.tracker = s.tracker ∧
       t.drive = s.drive ∧ s.raisesFloors t ∧
       ∀ (f : Nat) (fl : Floor), s.floors.table[f]? = some fl → ∃ gl, t.floors.table[f]? = some gl ∧
         (fl.mode = .closed → (gl.mode = .opening ∨ gl.mode = .opened) ∧ gl.modeSince = s.clock.count) ∧
         (fl.mode = .opened ∨ fl.mode = .warned → gl.mode = fl.mode ∧ gl.modeSince = fl.modeSince)) ∧
     (s.firePresent = true ∨ (∀ f ∈ s.floors.table, f.mode ≠ .closed) →
       ∃ t, exec (.openStore l) s = .next t ∧ s.answeredOnly l 38 .refusedState [0xFF] t))

/-- What raising a fault does to the table (R16, R17), and the trouble signal (R20): a new record, and one that returns to ACTIVE,
asks for a TROUBLE on the counting-house line, which a NORMAL line with room takes unless one waits there; any other raising
leaves the bells alone. -/
def Obligations.FaultsAreRecorded : Prop :=
  ∀ (k : FaultKind) (src : Nat) (s : State),
    let t := raiseFault k src s
    let now := s.clock.count
    let new : FaultRec := ⟨k, src, now, now, 1, k.cls != .occurrence⟩
    let trouble : SoundReq := ⟨.trouble, 3, none⟩
    let asks := ∀ c : Line, s.line? 8 = some c →
      ((∃ q ∈ c.queue, q.cls = .trouble) ∨ c.faulted = true ∨ 8 ≤ c.queue.length → t.bells = s.bells) ∧
      ((∀ q ∈ c.queue, q.cls ≠ .trouble) → c.faulted = false → c.queue.length < 8 →
        ∃ x, t.line? 8 = some x ∧ (trouble ∈ x.queue ∨ x.current? = some trouble))
    ((∀ r ∈ s.faults.records, r.isOf k src = false) → s.faults.records.length < 32 →
      t.faults = { s.faults with records := s.faults.records ++ [new] } ∧ t.latched .faultTable ∧ asks) ∧
    (∀ a b c, (∀ r ∈ s.faults.records, r.isOf k src = false) → 32 ≤ s.faults.records.length →
      s.faults.records = a ++ c :: b → (∀ r ∈ a, r.active = true) → c.active = false →
      t.faults = ⟨a ++ b ++ [new], false⟩ ∧ t.latched .faultTable ∧ asks) ∧
    ((∀ r ∈ s.faults.records, r.isOf k src = false) → 32 ≤ s.faults.records.length →
      (∀ r ∈ s.faults.records, r.active = true) →
      t.faults = { s.faults with full := true } ∧ (s.faults.full = false → t.latched .faultTable) ∧ t.bells = s.bells) ∧
    (∀ a b r, s.faults.records = a ++ r :: b → r.isOf k src = true →
      (∀ q ∈ a ++ b, q.isOf k src = false) →
      t.faults = { s.faults with
        records := a ++ { r with lastRaised := now, occurrences := min 255 (r.occurrences + 1),
                                 active := r.active || k.cls != .occurrence } :: b } ∧
      (r.active = true ∨ k.cls = .occurrence → t.bells = s.bells) ∧
      (r.active = false → k.cls ≠ .occurrence → asks))

/-- FAULT_CLEAR of one record (R19), by what the table holds of the kind and the source.

FAULT_CLEAR naming all records (R19), as its own command and as kind 255: every CLEARED record and every ACTIVE BELL_LINE
record goes, the others keep their order, and no line stays FAULTED but one whose record was CLEARED; a kind that does not
exist, or a source outside its range, is refused. That a refusal sends its count absent is the model's choice
(notes/assumptions/6.md). -/
def Obligations.FaultClear : Prop :=
  (∀ (l : LinkId) (k : FaultKind) (src : Nat) (s : State), s.mayAsk l 71 → k.sourceOk src = true →
     let r := refresh l s
     (∀ x, r.faults.find k src = some x → x.active = false → ∃ t, exec (.faultClear l k.code src) s = .next t ∧
       s.acceptedWith l 71 [1] [.faults] t ∧ t.latched .faultTable ∧
       t.faults = ⟨r.faults.records.filter fun y => !y.isOf k src, false⟩) ∧
     (∀ x, r.faults.find k src = some x → x.active = true → k = .bellLine → ∃ t, exec (.faultClear l k.code src) s = .next t ∧
       s.acceptedWith l 71 [1] [.faults, .bells, .loop] t ∧ t.latched .faultTable ∧
       t.faults = ⟨r.faults.records.filter fun y => !y.isOf k src, false⟩ ∧
       ∀ n, t.line? src = some n → n.faulted = false) ∧
     (∀ x, r.faults.find k src = some x → x.active = true → k ≠ .bellLine → ∃ t, exec (.faultClear l k.code src) s = .next t ∧
       s.answeredOnly l 71 .refusedState [0xFF] t) ∧
     (∀ x, r.faults.find k src = none → k = .bellLine → s.line? src = some x → x.faulted = true →
       ∃ t, exec (.faultClear l k.code src) s = .next t ∧ s.acceptedWith l 71 [0] [.bells, .loop] t ∧
         ∀ n, t.line? src = some n → n.faulted = false) ∧
     (r.faults.find k src = none → k ≠ .bellLine ∨ (∀ x, s.line? src = some x → x.faulted = false) →
       ∃ t, exec (.faultClear l k.code src) s = .next t ∧ s.answeredOnly l 71 .refusedState [0xFF] t)) ∧
  (∀ (l : LinkId) (s : State), s.mayAsk l 71 →
     let r := refresh l s
     let goes := fun (x : FaultRec) => !x.active || x.kind == .bellLine
     (∀ c ∈ [Instr.faultClearAll l, .faultClear l 255 0], ∃ t, exec c s = .next t ∧
       s.acceptedWith l 71 (be 1 (r.faults.records.countP goes)) [.faults, .bells, .loop] t ∧
       t.faults.records = r.faults.records.filter (fun x => !goes x) ∧
       (r.faults.records.any goes = true → t.faults.full = false ∧ t.latched .faultTable) ∧
       (r.faults.records.any goes = false → t.faults.full = r.faults.full) ∧
       ∀ n x, t.line? n = some x → x.faulted = true →
         (∃ y ∈ r.faults.records, y.isOf .bellLine n = true) ∧
         ∀ y ∈ r.faults.records, y.isOf .bellLine n = true → y.active = false) ∧
     (∀ kind src, 23 ≤ kind → kind < 255 → ∃ t, exec (.faultClear l kind src) s = .next t ∧
       s.answeredOnly l 71 .refusedRange [0xFF] t) ∧
     (∀ (k : FaultKind) (src : Nat), k.sourceOk src = false → ∃ t, exec (.faultClear l k.code src) s = .next t ∧
       s.answeredOnly l 71 .refusedRange [0xFF] t))

/-- Every step keeps at most 32 records, and at most one of a kind and a source (R15, R16). -/
def Obligations.FaultTableBounded : Prop :=
  ∀ s t : State, s.faults.wf → step s = .next t → t.faults.wf

/-! ### The chain and the drive -/

/-- A forward transition of the encoder is one that the pairs (A, B) take in the order 00, 10, 11, 01, and a reverse one goes
the other way (R24). With an engineering part in force the tick moves the counter round the loop of Lc, sets the direction,
counts in the speed window and in the pitch, and ends a pitch at P with the error count 0 (R25, R26, R35).

The travel since the index counts while the chain is referenced, and stands while it is not. A forward tick that takes it beyond Lc
and the slip tolerance raises INDEX_MISSING and clears the referenced flag (R31); a driven chain and a settling LEVEL brake to HALT on
it, and a BRAKE bound for OFF takes it as its cause (R58, R62).

A change of both channels is an invalid transition: it counts an error, the fifth raises ENCODER and brakes a driven chain,
and nothing else of the tracker moves; with no engineering part it is not counted, and a tick moves no counter (R24 to R26).

A tick with the brake applied for less than 8,000 ms makes a chain deemed still MOVING; at 8,000 ms it stays deemed still, and a chain
that is MOVING stays so (R36). On the change to MOVING every shutter of kind PATERNOSTER that is LOWERING or RAISING stops with its hold
kept, gives up its slot and joins the waiting list at the tail in its direction (R80); otherwise a tick changes no shutter. Several that
stop may join in any order, which the model's choice fixes (notes/assumptions/30.md). -/
def Obligations.Encoder : Prop :=
  (∀ (e : Eng) (s : State), s.store.eng = some e →
     let k := s.tracker
     let ticked := fun (t : State) (dir : Direction) =>
       t.tracker.direction = dir ∧ t.tracker.quietTime = 0 ∧ t.tracker.windowTicks = min 6553 (k.windowTicks + 1) ∧
       (k.pitchTravel + 1 < e.pitch → t.tracker.pitchTravel = k.pitchTravel + 1 ∧ t.tracker.errorCount = k.errorCount) ∧
       (e.pitch ≤ k.pitchTravel + 1 → t.tracker.pitchTravel = 0 ∧ t.tracker.errorCount = 0) ∧
       (k.referenced = false → t.tracker.travel = k.travel ∧ t.tracker.referenced = false) ∧
       t.store = s.store ∧ t.clock = s.clock ∧ s.linksTakeEvents t
     let missing := fun (t : State) =>
       t.tracker.referenced = false ∧ t.latched .paternoster ∧ (s.faults.records.length < 32 → t.faults.active .indexMissing 0) ∧
       (s.drive.driven = true ∨ s.drive.settling = true → t.drive.stopCause = some (.fault .indexMissing) ∧
         t.drive.released = false ∧ t.drive.enable = false ∧ t.drive.vRef = 0 ∧
         (t.drive.state = .brake ∧ t.drive.brakeExit = some .halt ∨
           t.drive.state = .halt ∧ t.drive.haltCause = some .indexMissing)) ∧
       (s.drive.state = .brake → s.drive.brakeExit = some .off → t.drive = { s.drive with
         brakeExit := some .halt, stopCause := some (.fault .indexMissing) }) ∧
       (s.drive.state = .off ∨ s.drive.state = .warning ∨ s.drive.state = .halt → t.drive = s.drive)
     (∃ t, exec (.encoderTransition (!k.encB) k.encA) s = .next t ∧ ticked t .forward ∧
       t.tracker.encA = (!k.encB) ∧ t.tracker.encB = k.encA ∧
       t.tracker.counter = (if k.counter + 1 < e.cars * e.pitch then k.counter + 1 else 0) ∧
       (k.referenced = true → t.tracker.travel = k.travel + 1 ∧
         (k.travel + 1 ≤ e.cars * e.pitch + e.slip → t.tracker.referenced = true) ∧
         (e.cars * e.pitch + e.slip < k.travel + 1 → missing t))) ∧
     (∃ t, exec (.encoderTransition k.encB (!k.encA)) s = .next t ∧ ticked t .reverse ∧
       t.tracker.encA = k.encB ∧ t.tracker.encB = (!k.encA) ∧
       t.tracker.counter = (if 0 < k.counter then k.counter - 1 else e.cars * e.pitch - 1) ∧
       (k.referenced = true → t.tracker.travel = k.travel - 1 ∧ t.tracker.referenced = true))) ∧
  (∀ s : State,
     let k := s.tracker
     let moved := { k with encA := !k.encA, encB := !k.encB }
     (s.store.eng.isSome = true → k.errorCount ≠ 4 →
       ∃ t, exec (.encoderTransition (!k.encA) (!k.encB)) s = .next t ∧ s.keepsAllBut [.tracker] t ∧
         t.tracker = { moved with errorCount := min 255 (k.errorCount + 1) }) ∧
     (s.store.eng.isSome = true → k.errorCount = 4 →
       ∃ t, exec (.encoderTransition (!k.encA) (!k.encB)) s = .next t ∧ t.tracker.errorCount = 5 ∧
         t.tracker.counter = k.counter ∧ t.tracker.referenced = k.referenced ∧
         (s.faults.records.length < 32 → t.faults.active .encoder 0) ∧
         (s.drive.driven = true → t.drive.stopCause = some (.fault .encoder) ∧ t.drive.released = false ∧
           t.drive.vRef = 0)) ∧
     (s.store.eng = none → ∃ t, exec (.encoderTransition (!k.encA) (!k.encB)) s = .next t ∧ s.keepsAllBut [.tracker] t ∧
       t.tracker = moved) ∧
     (s.store.eng = none → k.still = false → ∃ t, exec (.encoderTransition (!k.encB) k.encA) s = .next t ∧
       s.keepsAllBut [.tracker] t ∧ t.tracker = { k with
         encA := !k.encB, encB := k.encA, direction := .forward, quietTime := 0
         windowTicks := min 6553 (k.windowTicks + 1) }) ∧
     (exec (.encoderTransition k.encA k.encB) s = .next s)) ∧
  (∀ (a b : Bool) (s : State),
     let k := s.tracker
     (a = !k.encB ∧ b = k.encA) ∨ (a = k.encB ∧ b = !k.encA) →
     ∃ t, exec (.encoderTransition a b) s = .next t ∧
       (k.still = false → t.tracker.still = false ∧ t.shutters = s.shutters) ∧
       (k.still = true → s.drive.released = false →
         (k.brakeAppliedTime < 8000 → t.tracker.still = false ∧ (s.shutters.listsAgree → s.stopsTravel s.travelsAtOpening t)) ∧
         (8000 ≤ k.brakeAppliedTime → t.tracker.still = true ∧ t.shutters = s.shutters)))

/-- An index pulse in forward travel (R28 to R30): an unreferenced chain becomes referenced at 0, and REFERENCE moves on; a
referenced chain is checked by the signed deviation, corrected within the slip tolerance and unreferenced with CHAIN_SLIP
beyond it. In reverse travel, and with no engineering part, the pulse is ignored. -/
def Obligations.IndexPulse : Prop :=
  ∀ s : State,
    (s.tracker.direction = .reverse ∨ s.store.eng = none → exec .indexPulse s = .next s) ∧
    (∀ e, s.store.eng = some e → s.tracker.direction = .forward → s.tracker.referenced = false →
      ∃ t, exec .indexPulse s = .next t ∧ t.tracker = { s.tracker with counter := 0, travel := 0, referenced := true } ∧
        s.actsOn [.tracker, .drive, .floors, .loop] t ∧ t.latched .paternoster ∧
        (s.drive.state = .reference → t.drive.state = (if s.drive.vRef = e.vRun then .run else .accel)) ∧
        (s.drive.state ≠ .reference → t.drive = s.drive)) ∧
    (∀ e, s.store.eng = some e → s.tracker.direction = .forward → s.tracker.referenced = true →
      let len := e.cars * e.pitch
      let d : Int := if s.tracker.counter ≤ len / 2 then s.tracker.counter else (s.tracker.counter : Int) - len
      ∃ t, exec .indexPulse s = .next t ∧ t.tracker.counter = 0 ∧ t.tracker.travel = 0 ∧ t.tracker.lastDeviation = some d ∧
        (d.natAbs ≤ e.slip → t.tracker.lastCorrection = some d ∧ t.tracker.referenced = true) ∧
        (e.slip < d.natAbs → t.tracker.lastCorrection = s.tracker.lastCorrection ∧ t.tracker.referenced = false ∧
          t.latched .paternoster ∧ (s.faults.records.length < 32 → t.faults.active .chainSlip 0) ∧
          (s.drive.driven = true → t.drive.stopCause = some (.fault .chainSlip) ∧ t.drive.vRef = 0)))

/-- The car at a landing and the distance past it (R34). -/
def Obligations.CarAtLanding : Prop :=
  ∀ (e : Eng) (x : Nat) (s : State), s.store.eng = some e → 0 < e.cars → 0 < e.pitch → x < e.cars * e.pitch →
    let q := (s.tracker.counter + e.cars * e.pitch - x) % (e.cars * e.pitch)
    s.carAt x = (q / e.pitch, q % e.pitch) ∧ (s.carAt x).1 < e.cars ∧
    (x % e.pitch = e.phase → s.tracker.counter % e.pitch = e.phase → (s.carAt x).2 = 0) ∧
    (x % e.pitch = e.phase →
      ((s.carAt x).2 : Int) = ((s.tracker.counter : Int) - (e.phase : Int)) % (e.pitch : Int))

/-- The end of a speed window (R35, R61): the speed is the window's ticks times ten, saturating, and an undriven chain is not
judged; a second window in a row above the limit raises OVERSPEED and brakes, and a twentieth below a quarter of the reference
raises STALL and brakes. -/
def Obligations.SpeedWindow : Prop :=
  ∀ s : State, ∃ t, exec .speedWindowEnd s = .next t ∧
    t.tracker.measuredSpeed = min 65535 (s.tracker.windowTicks * 10) ∧ t.tracker.windowTicks = 0 ∧
    t.tracker.counter = s.tracker.counter ∧
    (s.drive.driven = false ∨ s.drive.released = false → s.keepsAllBut [.tracker] t) ∧
    (s.drive.driven = true → s.drive.released = true →
      let speed := min 65535 (s.tracker.windowTicks * 10)
      let limit := (if s.drive.state = .inch then s.eng.vInch else s.eng.vRun) + s.eng.vRun / 8
      let brakes := fun (k : FaultKind) => t.drive.stopCause = some (.fault k) ∧ t.drive.released = false ∧ t.drive.vRef = 0 ∧
        (t.drive.brakeExit = some .halt ∨ t.drive.state = .halt) ∧ (s.faults.records.length < 32 → t.faults.active k 0)
      (limit < speed → 1 ≤ s.drive.overspeedCount → brakes .overspeed) ∧
      (limit < speed → s.drive.overspeedCount = 0 → s.drive.sinceRelease < 1000 → s.drive.stallCount < 20 →
        t.drive = { s.drive with overspeedCount := 1 }) ∧
      (speed ≤ limit → 1000 ≤ s.drive.sinceRelease → speed < s.drive.vRef / 4 → s.drive.stallCount = 19 → brakes .stall) ∧
      (speed ≤ limit → 1000 ≤ s.drive.sinceRelease → speed < s.drive.vRef / 4 → s.drive.stallCount < 19 →
        t.drive = { s.drive with overspeedCount := 0, stallCount := s.drive.stallCount + 1 }) ∧
      (speed ≤ limit → 1000 ≤ s.drive.sinceRelease → s.drive.vRef / 4 ≤ speed →
        t.drive = { s.drive with overspeedCount := 0, stallCount := 0 }))

/-- The chain is deemed still (R36, R37): with the brake applied, 500 ms without a tick or 8,000 ms of the brake make it so,
the latter with STILL_UNCONFIRMED where ticks still arrive. Either way BRAKE is left for the state in brake_exit, reverse OFF and
inch_origin discarded (R58): HALT takes the fault behind the BRAKE as its halt_cause, and a BRAKE that ended inching begun from HALT leaves
halt_cause as it was. A levelled stop in phase SETTLING ends: its phase is ENDED and the drive enters OFF (R55). -/
def Obligations.ChainDeemedStill : Prop :=
  ∀ s : State,
    let left := { s.drive with brakeExit := none, reverse := false, inchOrigin := none }
    let leaves := fun (t : State) => t.drive.released = false ∧
      (s.drive.state = .brake → s.drive.brakeExit = some .off →
        t.latched .paternoster ∧ t.drive = { left with state := .off }) ∧
      (∀ k, s.drive.state = .brake → s.drive.brakeExit = some .halt → s.drive.stopCause = some (.fault k) →
        t.latched .paternosterHalt ∧ t.drive = { left with state := .halt, haltCause := some k }) ∧
      (s.drive.state = .brake → s.drive.brakeExit = some .halt → s.drive.stopCause = some .inchEnd →
        t.latched .paternosterHalt ∧ t.drive = { left with state := .halt }) ∧
      (∀ v, s.drive.state = .level → s.drive.level = some v → v.phase = .settling → t.latched .paternoster ∧
        t.drive = { s.drive with state := .off, level := some { v with phase := .ended, deadline := none } }) ∧
      (s.drive.state = .off ∨ s.drive.state = .halt → t.drive = s.drive)
    (s.drive.released = true → ∃ t, exec .quietTimeExpiry s = .next t ∧ s.keepsAllBut [.tracker] t ∧
      t.tracker = { s.tracker with quietTime := 500 }) ∧
    (s.drive.released = true → exec .brakeApplied8s s = .next s) ∧
    (s.drive.released = false → s.tracker.still = false → ∃ t, exec .quietTimeExpiry s = .next t ∧
      t.tracker = { s.tracker with quietTime := 500, still := true } ∧ leaves t) ∧
    (s.drive.released = false → s.tracker.still = false → ∃ t, exec .brakeApplied8s s = .next t ∧
      t.tracker.still = true ∧ t.tracker.brakeAppliedTime = 8000 ∧ leaves t ∧
      (s.tracker.quietTime < 500 → t.tracker.unconfirmedRaised = true ∧
        (s.tracker.unconfirmedRaised = false → s.faults.records.length < 32 →
          ∃ r ∈ t.faults.records, r.isOf .stillUnconfirmed 0 = true)))

/-- PATERNOSTER_START (R45): in OFF with the starting conditions met it is accepted, and every floor line that takes the request holds
its start warning. A floor line that is FAULTED, or whose queue is full, is reported done at once and leaves warning_lines (R46): the
drive waits in WARNING for the lines that are left, or, where none is, starts the chain at once. In OFF with a condition not met the
request is refused with the conditions that fail, and in every other state it is refused. That the byte of the failed conditions is 0
in an accepted reply, and absent in a refusal in another state, is the model's choice (notes/assumptions/6.md).

A start warning is reported done (R46): the line leaves warning_lines. With the last one the chain starts, in REFERENCE at v_creep or,
referenced, in ACCEL from 0, with the brake released, or the drive returns to OFF where a starting condition fails. -/
def Obligations.Start : Prop :=
  (∀ (l : LinkId) (s : State), s.mayAsk l 64 →
     let warning : SoundReq := ⟨.startWarning, 1, none⟩
     let taking := (List.range s.eng.floorCount).filter fun n => s.takesReq n warning
     (s.drive.state = .off → (∀ b ∈ s.startConditions, b = true) → taking ≠ [] →
       ∃ t, exec (.paternosterStart l) s = .next t ∧
         s.acceptedWith l 64 (be 1 t.drive.state.code ++ [0]) [.drive, .bells, .floors, .loop] t ∧
         t.drive = { s.drive with state := .warning, warningLines := some taking } ∧ t.latched .paternoster ∧
         (∀ n ∈ taking, ∃ k, t.line? n = some k ∧ (warning ∈ k.queue ∨ k.current? = some warning)) ∧
         (∀ n, n ∉ taking → t.line? n = s.line? n)) ∧
     (s.drive.state = .off → (∀ b ∈ s.startConditions, b = true) → taking = [] → 0 < s.eng.floorCount → 0 < s.eng.vRun →
       ∃ t, exec (.paternosterStart l) s = .next t ∧
         s.acceptedWith l 64 (be 1 t.drive.state.code ++ [0])
           [.drive, .tracker, .floors, .shutters, .faults, .loop, .analog] t ∧
         t.latched .paternoster ∧ t.tracker.still = false ∧
         t.drive = { s.drive with
           state := if s.tracker.referenced then .accel else .reference
           vRef := if s.tracker.referenced then 0 else s.eng.vCreep
           rampLeft := if s.tracker.referenced then 10 else s.drive.rampLeft
           warningLines := none, released := true, enable := true, sinceRelease := 0, wasReleased := true
           overspeedCount := 0, stallCount := 0 }) ∧
     (s.drive.state = .off → (∃ b ∈ s.startConditions, b = false) → ∃ t, exec (.paternosterStart l) s = .next t ∧
       s.answeredOnly l 64 .refusedState ([0] ++ be 1 (flagBits (s.startConditions.map (!·)))) t) ∧
     (s.drive.state ≠ .off → ∃ t, exec (.paternosterStart l) s = .next t ∧
       s.answeredOnly l 64 .refusedState (be 1 s.drive.state.code ++ [0xFF]) t)) ∧
  (∀ (n : Nat) (ls : List Nat) (s : State), s.drive.state = .warning → s.drive.warningLines = some ls →
     (n ∉ ls → warningDone n s = s) ∧
     (n ∈ ls → ls.erase n ≠ [] → s.keepsAllBut [.drive] (warningDone n s) ∧
       (warningDone n s).drive = { s.drive with warningLines := some (ls.erase n) })) ∧
  (∀ (n : Nat) (s : State), s.drive.state = .warning → s.drive.warningLines = some [n] → 0 < s.eng.vRun →
     let t := warningDone n s
     t.drive.warningLines = none ∧
     (s.mayStart = false → t.drive.state = .off ∧ t.drive.released = s.drive.released) ∧
     (s.mayStart = true → s.tracker.referenced = false → t.drive.state = .reference ∧ t.drive.vRef = s.eng.vCreep ∧
       t.drive.released = true ∧ t.drive.enable = true ∧ t.drive.sinceRelease = 0 ∧ t.tracker.still = false) ∧
     (s.mayStart = true → s.tracker.referenced = true → t.drive.state = .accel ∧ t.drive.vRef = 0 ∧
       t.drive.released = true ∧ t.drive.enable = true ∧ t.drive.sinceRelease = 0 ∧ t.tracker.still = false))

/-- A step of the ramp (R48, R50, R64): a hundredth of the acceleration, at least 1, never past the ceiling; ACCEL ends in RUN, where the
boarding lamps of the OPEN and the WARNED floors go DARK and no others (R14).

The stop profile is evaluated every 10 ms (R54), with the integer square root of 0.7. -/
def Obligations.SpeedReference : Prop :=
  (∀ s : State,
     let up := fun limit => min limit (s.drive.vRef + max 1 (s.eng.accel / 100))
     (s.drive.state = .accel → ∃ t, exec .accelRampStep s = .next t ∧ s.actsOn [.drive, .floors, .loop] t ∧
       t.drive = { s.drive with
         vRef := up s.eng.vRun, rampLeft := 10, state := if up s.eng.vRun = s.eng.vRun then .run else .accel } ∧
       (up s.eng.vRun = s.eng.vRun → t.latched .paternoster ∧ t.lampsAgree ∧ (s.lampsApart → t.lampsShown))) ∧
     (s.drive.state = .lastrun → s.drive.vRef < s.eng.vRun → ∃ t, exec .accelRampStep s = .next t ∧
       s.keepsAllBut [.drive] t ∧ t.drive = { s.drive with vRef := up s.eng.vRun, rampLeft := 10 }) ∧
     (s.drive.state ≠ .accel → s.drive.state ≠ .lastrun → exec .accelRampStep s = .next s) ∧
     (∀ i, s.drive.state = .inch → s.drive.inch = some i → i.started = true → ∃ t, exec .inchRampStep s = .next t ∧
       s.keepsAllBut [.drive] t ∧ t.drive = { s.drive with vRef := up s.eng.vInch, rampLeft := 10 }) ∧
     (s.drive.state ≠ .inch → exec .inchRampStep s = .next s)) ∧
  (∀ (v : LevelRec) (s : State), s.drive.state = .level → s.drive.level = some v → v.phase = .travel →
     ∃ t, exec .levelProfileEval s = .next t ∧ s.keepsAllBut [.drive] t ∧
       t.drive = { s.drive with
         vRef := if v.r = 0 then 0 else max (min v.vNow (Nat.sqrt (2 * s.eng.accel * v.r))) s.eng.vCreep
         level := some { v with evalLeft := 10 } })

/-- PATERNOSTER_STOP (R53) from a state that runs enters LEVEL with the distance of R51: the braking distance is the least whole
number of ticks not below v²/2a, the stop is the least distance not below it that brings the chain level, and the first
reference is that of the formula of R54: the present one, or v_creep where that is greater. That the formula holds against the
words that the reference never steps up at entry is the model's choice (notes/assumptions/31.md). Out of RUN the boarding
lamps of every floor are LIT (R14).

PATERNOSTER_STOP in the other states (R53); in INCH it ends inching in the state that inching began from (R65). -/
def Obligations.OrderlyStop : Prop :=
  (∀ (l : LinkId) (e : Eng) (s : State), s.mayAsk l 48 → s.store.eng = some e → 0 < e.accel → e.phase < e.pitch →
     s.drive.state = .accel ∨ s.drive.state = .run ∨ s.drive.state = .lastrun →
     let v := s.drive.vRef
     ∃ (t : State) (d r0 : Nat), exec (.paternosterStop l) s = .next t ∧ t.drive.stopCause = some .stopRequest ∧
       v * v ≤ 2 * e.accel * d ∧ (∀ d', v * v ≤ 2 * e.accel * d' → d ≤ d') ∧
       d ≤ r0 ∧ (s.tracker.counter + r0) % e.pitch = e.phase ∧
       (∀ r', d ≤ r' → (s.tracker.counter + r') % e.pitch = e.phase → r0 ≤ r') ∧
       (0 < r0 → s.acceptedWith l 48 [6] [.drive, .floors, .loop] t ∧
         t.drive = { s.drive with
           state := .level, stopCause := some .stopRequest, lastrunTravel := none, vRef := max v e.vCreep
           level := some ⟨v, d, r0, r0, .travel, none, 0, false, 10⟩ } ∧
         (∀ fl ∈ t.floors.table, fl.lit = true) ∧ (s.lampsApart → t.lampsShown)) ∧
       (r0 = 0 → t.drive.vRef = 0 ∧ t.drive.released = false ∧ (t.drive.state = .level ∨ t.drive.state = .off))) ∧
  (∀ (l : LinkId) (s : State), s.mayAsk l 48 →
     (s.drive.state = .reference → ∃ t, exec (.paternosterStop l) s = .next t ∧ t.drive.stopCause = some .stopRequest ∧
       t.drive.vRef = 0 ∧ t.drive.released = false ∧ t.replies l 48 .accepted (be 1 t.drive.state.code) ∧
       (t.drive.state = .brake ∧ t.drive.brakeExit = some .off ∨ t.drive.state = .off)) ∧
     (s.drive.state = .warning → ∃ t, exec (.paternosterStop l) s = .next t ∧ t.drive.state = .off ∧
       t.drive.warningLines = none ∧ t.replies l 48 .accepted [0]) ∧
     (s.drive.state = .level → ∃ t, exec (.paternosterStop l) s = .next t ∧ s.answeredOnly l 48 .accepted [6] t) ∧
     (∀ o, s.drive.state = .inch → s.drive.inchOrigin = some o → ∃ t, exec (.paternosterStop l) s = .next t ∧
       t.replies l 48 .accepted (be 1 t.drive.state.code) ∧ t.drive.stopCause = some .inchEnd ∧ t.drive.inch = none ∧
       t.drive.released = false ∧ t.drive.vRef = 0 ∧
       (t.drive.state = .brake ∧ t.drive.brakeExit = some o ∨
         t.drive.state = (match o with | .off => .off | .halt => .halt))) ∧
     (s.drive.state = .off ∨ s.drive.state = .brake ∨ s.drive.state = .halt → ∃ t, exec (.paternosterStop l) s = .next t ∧
       s.answeredOnly l 48 .refusedState (be 1 s.drive.state.code) t))

/-- STOP_NOW (R59). The chain that is deemed still at once has left BRAKE already (R36, R58). -/
def Obligations.StopNow : Prop :=
  ∀ (l : LinkId) (s : State), s.mayAsk l 65 →
    (s.drive.driven = true → ∃ t, exec (.stopNow l) s = .next t ∧ t.drive.stopCause = some .stopNow ∧
      t.drive.released = false ∧ t.drive.enable = false ∧ t.drive.vRef = 0 ∧ t.drive.inch = none ∧
      t.replies l 65 .accepted (be 1 t.drive.state.code) ∧
      (s.tracker.still = false → (s.drive.released = false ∨ s.tracker.quietTime < 500) →
        t.drive.state = .brake ∧ t.drive.brakeExit = some .off ∧ t.faults = (refresh l s).faults) ∧
      (s.tracker.still = true ∨ (s.drive.released = true ∧ 500 ≤ s.tracker.quietTime) → t.drive.state = .off)) ∧
    (s.drive.state = .warning → ∃ t, exec (.stopNow l) s = .next t ∧ t.drive.state = .off ∧ t.drive.warningLines = none ∧
      t.replies l 65 .accepted [0]) ∧
    (s.drive.settling = true → ∃ t, exec (.stopNow l) s = .next t ∧ s.answeredOnly l 65 .accepted [6] t) ∧
    (s.drive.state = .off ∨ s.drive.state = .brake ∨ s.drive.state = .halt → ∃ t, exec (.stopNow l) s = .next t ∧
      s.answeredOnly l 65 .refusedState (be 1 s.drive.state.code) t)

/-- A tick in the last circuit (R50): the travel goes up with a forward tick and down, not below 0, with a reverse one, and at Lc
the drive enters LEVEL with cause CLOSING at the speed it has.

A tick of a levelled stop (R52, R54, R55): in phase TRAVEL the distance left goes down with a forward tick, when the profile is
evaluated, and up with a reverse one; at 0 the brake is applied and the phase is SETTLING; in SETTLING the overrun goes the
other way, and LEVEL_MISS is raised once when it passes the tolerance.

An index correction in phase TRAVEL (R52): the deviation is added to the distance left, which is not below 0; at 0 the stop
settles. -/
def Obligations.LastCircuitAndLevel : Prop :=
  (∀ (e : Eng) (n : Nat) (s : State), s.store.eng = some e → s.tracker.still = false → s.drive.state = .lastrun →
     s.drive.lastrunTravel = some n → s.tracker.referenced = false ∨ s.tracker.travel < e.cars * e.pitch + e.slip →
     (n + 1 < e.cars * e.pitch → ∃ t, exec (.encoderTransition (!s.tracker.encB) s.tracker.encA) s = .next t ∧
       s.keepsAllBut [.tracker, .drive] t ∧ t.drive = { s.drive with lastrunTravel := some (n + 1) }) ∧
     (n - 1 < e.cars * e.pitch → ∃ t, exec (.encoderTransition s.tracker.encB (!s.tracker.encA)) s = .next t ∧
       s.keepsAllBut [.tracker, .drive] t ∧ t.drive = { s.drive with lastrunTravel := some (n - 1) }) ∧
     (e.cars * e.pitch ≤ n + 1 → 0 < e.accel → ∃ (t : State) (v : LevelRec),
       exec (.encoderTransition (!s.tracker.encB) s.tracker.encA) s = .next t ∧ t.drive.state = .level ∧
       t.drive.stopCause = some .closing ∧ t.drive.lastrunTravel = none ∧ t.drive.level = some v ∧ v.vNow = s.drive.vRef ∧
       s.drive.vRef * s.drive.vRef ≤ 2 * e.accel * v.dReq ∧ v.dReq ≤ v.r0 ∧ v.r = v.r0 ∧ v.deadline = none ∧
       t.latched .paternoster)) ∧
  (∀ (e : Eng) (v : LevelRec) (s : State), s.store.eng = some e → s.tracker.still = false → s.drive.state = .level →
     s.drive.level = some v → s.tracker.referenced = false ∨ s.tracker.travel < e.cars * e.pitch + e.slip →
     let profile := fun (r : Nat) => max (min v.vNow (Nat.sqrt (2 * e.accel * r))) e.vCreep
     let settles := fun (t : State) => t.drive = { s.drive with
       released := false, enable := false, vRef := 0, overspeedCount := 0, stallCount := 0
       level := some { v with r := 0, phase := .settling, deadline := none } }
     (v.phase = .travel → 1 < v.r → ∃ t, exec (.encoderTransition (!s.tracker.encB) s.tracker.encA) s = .next t ∧
       s.keepsAllBut [.tracker, .drive] t ∧ t.drive = { s.drive with
         level := some { v with r := v.r - 1 }, vRef := profile (v.r - 1) }) ∧
     (v.phase = .travel → v.r ≤ 1 → ∃ t, exec (.encoderTransition (!s.tracker.encB) s.tracker.encA) s = .next t ∧
       s.keepsAllBut [.tracker, .drive, .analog] t ∧ settles t) ∧
     (v.phase = .travel → ∃ t, exec (.encoderTransition s.tracker.encB (!s.tracker.encA)) s = .next t ∧
       s.keepsAllBut [.tracker, .drive] t ∧ t.drive = { s.drive with level := some { v with r := v.r + 1 } }) ∧
     (v.phase = .settling → ∃ t, exec (.encoderTransition (!s.tracker.encB) s.tracker.encA) s = .next t ∧
       let n := min 65535 (v.overrun + 1)
       t.drive = { s.drive with level := some { v with overrun := n, missRaised := v.missRaised || decide (e.levelTol < n) } } ∧
       (v.missRaised = true ∨ n ≤ e.levelTol → t.faults = s.faults) ∧
       (v.missRaised = false → e.levelTol < n → t.faults = s.faults.raise .levelMiss 0 s.clock.count)) ∧
     (v.phase = .settling → v.overrun - 1 ≤ e.levelTol → v.overrun ≤ 65535 →
       ∃ t, exec (.encoderTransition s.tracker.encB (!s.tracker.encA)) s = .next t ∧
         t.drive = { s.drive with level := some { v with overrun := v.overrun - 1 } } ∧ t.faults = s.faults)) ∧
  (∀ (e : Eng) (v : LevelRec) (s : State), s.store.eng = some e → s.tracker.direction = .forward →
     s.tracker.referenced = true → s.tracker.still = false → s.tracker.quietTime < 500 → s.drive.state = .level →
     s.drive.level = some v → v.phase = .travel →
     let len := e.cars * e.pitch
     let d : Int := if s.tracker.counter ≤ len / 2 then s.tracker.counter else (s.tracker.counter : Int) - len
     d.natAbs ≤ e.slip →
     ∃ t, exec .indexPulse s = .next t ∧ s.keepsAllBut [.tracker, .drive, .analog] t ∧
       (0 < (v.r : Int) + d → ∃ x, t.drive.level = some x ∧ (x.r : Int) = v.r + d ∧ x = { v with r := x.r } ∧
         t.drive = { s.drive with
           level := some x
           vRef := if x.r < v.r then max (min v.vNow (Nat.sqrt (2 * e.accel * x.r))) e.vCreep else s.drive.vRef }) ∧
       ((v.r : Int) + d ≤ 0 → t.drive = { s.drive with
         released := false, enable := false, vRef := 0, overspeedCount := 0, stallCount := 0
         level := some { v with r := 0, phase := .settling, deadline := none } }))

/-- HALT_RESET (R63): in HALT with no trip active and the loop GOOD the drive enters OFF and every ACTIVE latched paternoster record
becomes CLEARED, and the reply counts them; otherwise it is refused. That a refusal sends the count absent is the model's choice
(notes/assumptions/6.md). -/
def Obligations.HaltReset : Prop :=
  ∀ (l : LinkId) (s : State), s.mayAsk l 67 →
    let r := refresh l s
    (s.drive.state = .halt → s.tripActive = false → s.loop.good = true → ∃ t, exec (.haltReset l) s = .next t ∧
      s.acceptedWith l 67 (be 1 (r.faults.records.countP fun x => x.active && x.kind.isPaternoster))
        [.drive, .faults, .floors, .loop] t ∧
      t.drive = { s.drive with state := .off } ∧ t.latched .paternoster ∧
      (∀ x ∈ t.faults.records, x.kind.isPaternoster = true → x.source = 0 → x.active = false) ∧
      t.faults.records.map (fun x => (x.kind, x.source, x.occurrences)) =
        r.faults.records.map (fun x => (x.kind, x.source, x.occurrences))) ∧
    (s.drive.state ≠ .halt ∨ s.tripActive = true ∨ s.loop.good = false → ∃ t, exec (.haltReset l) s = .next t ∧
      s.answeredOnly l 67 .refusedState [0xFF] t)

/-- INCH (R64, R65): begun from OFF or HALT where nothing forbids it, renewed in its direction, refused in the other and in every
state but OFF, HALT and INCH, and ended by its lease in the state that it began from. That a direction of another value is refused as
out of range also where the state refuses inching is the model's choice (notes/assumptions/35.md). -/
def Obligations.Inching : Prop :=
  ∀ (l : LinkId) (s : State),
    (∀ o, s.mayAsk l 66 → s.mayInch = true → (s.drive.state = .off ∧ o = Rest.off ∨ s.drive.state = .halt ∧ o = Rest.halt) →
      ∀ dir : Direction, ∃ t, exec (.inch l dir.code) s = .next t ∧ s.acceptedWith l 66 [9] [.drive, .floors, .loop] t ∧
        t.drive = { s.drive with
          state := .inch, inch := some ⟨dir, 600, false, false⟩, inchOrigin := some o, reverse := dir == .reverse } ∧
        t.latched .paternoster) ∧
    (s.mayAsk l 66 → s.mayInch = false → s.drive.state = .off ∨ s.drive.state = .halt → ∀ dir : Direction,
      ∃ t, exec (.inch l dir.code) s = .next t ∧ s.answeredOnly l 66 .refusedState (be 1 s.drive.state.code) t) ∧
    (∀ i, s.mayAsk l 66 → s.drive.state = .inch → s.drive.inch = some i →
      (∃ t, exec (.inch l i.direction.code) s = .next t ∧ s.acceptedWith l 66 [9] [.drive] t ∧
        t.drive = { s.drive with inch := some { i with lease := 600 } }) ∧
      ∀ dir : Direction, dir ≠ i.direction → ∃ t, exec (.inch l dir.code) s = .next t ∧
        s.answeredOnly l 66 .refusedState [9] t) ∧
    (s.mayAsk l 66 → s.drive.state ∈ [.warning, .reference, .accel, .run, .lastrun, .level, .brake] → ∀ dir : Direction,
      ∃ t, exec (.inch l dir.code) s = .next t ∧ s.answeredOnly l 66 .refusedState (be 1 s.drive.state.code) t) ∧
    (∀ n, s.mayAsk l 66 → 1 < n → ∃ t, exec (.inch l n) s = .next t ∧
      s.answeredOnly l 66 .refusedRange (be 1 s.drive.state.code) t) ∧
    (∀ o, s.drive.state = .inch → s.drive.inchOrigin = some o → ∃ t, exec .inchLeaseExpiry s = .next t ∧
      t.drive.stopCause = some .inchEnd ∧ t.drive.inch = none ∧ t.drive.released = false ∧ t.drive.vRef = 0 ∧
      (t.drive.state = .brake ∧ t.drive.brakeExit = some o ∨ t.drive.state = (match o with | .off => .off | .halt => .halt)))

/-- Every step keeps the brake in agreement with the state of the drive (R36, R42, R58), and the boarding field of every floor with
the state of the drive and the mode of the floor: DARK in RUN on a floor that is OPEN or WARNED, LIT otherwise (R14).

With the parameters within the bounds of the consistency checks, which every step keeps too (R194), every step keeps the bounds of the
speed reference (R43): at most v_run, v_inch in INCH, in a levelled stop with distance left at most the larger of v_creep and
isqrt(2·a·r), and an output code of at most 1023. And every step keeps the law of R44: the drive is in WARNING, REFERENCE, ACCEL, RUN or
LASTRUN only while no floor is in FIRE, no landing trip is active, the field loop is GOOD and every shutter of kind PATERNOSTER is OPEN
or, on a floor in CLOSING, in WAIT_STILL to be lowered.

A change of the drive's state, a change of a floor's mode and the entry of floors to FIRE each leave both lamp points of every floor in
the output image as its boarding field says (R14). -/
def Obligations.BrakeAgreesAlways : Prop :=
  (∀ s t : State, step s = .next t → (s.brakeAgrees → t.brakeAgrees) ∧ (s.lampsAgree → t.lampsAgree) ∧
    (s.paramsBounded → t.paramsBounded ∧
      (s.brakeAgrees → (s.speedBounded → t.speedBounded) ∧ (s.shutters.listsAgree → s.driveLawful → t.driveLawful)))) ∧
  (∀ s : State, s.lampsApart →
     let derives := fun (t : State) => t.lampsAgree ∧ t.lampsShown
     (∀ d, derives (enterState d s) ∧ (enterState d s).drive.state = d) ∧
     (∀ f m, derives (setMode f m s) ∧ ∀ fl : Floor, (setMode f m s).floors.table[f]? = some fl → fl.mode = m) ∧
     (∀ fs c, derives (burnFloors fs c s) ∧ ∀ f ∈ fs, ∀ fl : Floor, (burnFloors fs c s).floors.table[f]? = some fl →
       fl.mode = .fire))

/-! ### The shutters -/

/-- A shutter whose drop or powered travel does not end in time is JAMMED, its hold as it was, with SHUTTER_JAM (R74, R78);
the expiry of a timer that does not run changes nothing. -/
def Obligations.ShutterTimers : Prop :=
  ∀ (i : Nat) (sh : Shutter) (s : State), s.shutter? i = some sh →
    let jams := fun (c : Instr) => ∃ (t : State) (x : Shutter), exec c s = .next t ∧ t.shutter? i = some x ∧
      x.state = .jammed ∧ x.hold = sh.hold ∧ x.since = s.clock.count ∧ t.latched .shutter ∧ t.latched .shutterFault ∧
      (s.faults.records.length < 32 → t.faults.active .shutterJam i) ∧ t.drive = s.drive ∧ t.tracker = s.tracker ∧
      t.clock = s.clock ∧ s.linksTakeEvents t
    (∀ n, sh.state = .dropping (some n) → jams (.dropTimerExpiry i)) ∧
    (∀ n, sh.state = .lowering n ∨ sh.state = .raising n → jams (.travelTimerExpiry i)) ∧
    (sh.state.timer? = none → exec (.dropTimerExpiry i) s = .next s ∧ exec (.travelTimerExpiry i) s = .next s)

/-- Every step keeps the motor slots and the lists in agreement with the states of the shutters: the powered shutters are those
granted a slot, and the waiting list and the WAIT_STILL order hold exactly the shutters in those states (R73, R81, R82).

The arbiter (R82): with the field loop GOOD, a slot free and an entry eligible, the lowest free slot goes to the first eligible entry in
list order, which energises its hold and travels, or ends at once where its limit is active already, its slot free again (R78), and the
arbiter goes on from there; entries that are not eligible keep their places. It stops when no slot is free or no entry is eligible, and
does nothing while the loop is FAULTED.

Every step keeps the laws of the shutters: one of kind PATERNOSTER is powered only while the chain is deemed still (R70, R80); none with
a true drop demand is OPEN, WAIT_SLOT, LOWERING, RAISING or INHIBITED (R71); a shutter is LOWERING only on a floor in CLOSING (R75); and
none of a CLOSED floor is OPEN, LOWERING, RAISING or in WAIT_SLOT (R77).

A shutter that enters WAIT_SLOT joins the waiting list at the tail, one that leaves it leaves its place there, and one that stays in it, its
direction changed or not, keeps its place (R81); so it is with WAIT_STILL and its order (R73). -/
def Obligations.ListsAgreeAlways : Prop :=
  (∀ s t : State, step s = .next t →
     (s.shutters.listsAgree → t.shutters.listsAgree) ∧ (s.shuttersLawful → t.shuttersLawful)) ∧
  (∀ s : State,
     let rests := fun (u : State) => (∀ k : Nat, u.shutters.slots[k]? ≠ some none) ∨ ∀ i ∈ u.shutters.waitList, u.eligible i = false
     (s.loop.good = false ∨ rests s → arbiter s = s) ∧
     (s.loop.good = true → s.shutters.listsAgree →
       rests (arbiter s) ∧ (arbiter s).shutters.waitList.Sublist s.shutters.waitList) ∧
     ∀ (k i : Nat) (ahead behind : List Nat) (sh : Shutter) (w : Travel), s.loop.good = true → s.shutters.listsAgree →
       s.shutters.slots[k]? = some none → (∀ j, j < k → s.shutters.slots[j]? ≠ some none) →
       s.shutters.waitList = ahead ++ i :: behind → (∀ j ∈ ahead, s.eligible j = false) → s.eligible i = true →
       s.shutter? i = some sh → sh.state = .waitSlot w →
       let t := grantSlot k i s
       let c := s.shutterCfg i
       let moves := { sh with
         state := match w with
           | .down => .lowering (c.tTravel * 1000)
           | .up => .raising (c.tTravel * 1000)
         hold := true, releasePending := false, since := s.clock.count }
       let ended := match w with
         | .down => s.closedLimit i
         | .up => s.openLimit i
       arbiter s = arbiter t ∧ t.loop.good = true ∧ t.shutters.listsAgree ∧
         s.keepsAllBut [.floors, .faults, .shutters, .loop, .analog, .links] t ∧
         t.loop = { s.loop with out := t.loop.out } ∧ (∀ n, n ≠ k + 1 → t.analog[n]? = s.analog[n]?) ∧
         (ended = false → t.shutters = { s.shutters with
           waitList := ahead ++ behind, slots := s.shutters.slots.set k (some ⟨i, 0⟩)
           table := s.shutters.table.set i moves }) ∧
         (ended = true → t.shutters = { s.shutters with
           waitList := ahead ++ behind
           table := s.shutters.table.set i (match w with
             | .down => { moves with state := .closed, hold := false }
             | .up => { moves with state := .opened }) })) ∧
  (∀ (i : Nat) (old new : Shutter) (s : State), s.shutter? i = some old →
     let order := fun (was is : Bool) (xs : List Nat) =>
       if was = is then xs else if is = true then xs ++ [i] else xs.erase i
     let t := (putShutter i new s).shutters
     t.waitList = order old.state.waiting new.state.waiting s.shutters.waitList ∧
       t.stillList = order old.state.inWaitStill new.state.inWaitStill s.shutters.stillList)

/-- Every shutter request is refused for a shutter that does not exist, and while the field loop is FAULTED; that the first is tested
first is the model's choice (notes/assumptions/35.md). SHUTTER_TEST (R87):
an OPEN shutter of a floor not in FIRE whose hold may be released drops; with its closed limit not reached it is DROPPING,
the hold released and the timer at t_drop, and where it is a paternoster-opening one WARNING ends (R47); in any other case it is refused.

SHUTTER_RAISE (R88): a CLOSED or JAMMED shutter of an open floor, with no drop demand and the supply not low, joins the list
for UP and may be granted a motor at once, which ends at once where the open limit is active already, whatever the closed one shows
(R78); one that already waits is accepted unchanged; any other is refused.

SHUTTER_INHIBIT (R89, R90): on, an OPEN, CLOSED or JAMMED shutter without a drop demand is INHIBITED with its hold
energised, and a paternoster-opening one that leaves OPEN so brakes a chain in REFERENCE, ACCEL, RUN or LASTRUN to HALT with
PAT_SHUTTER_OPENED and ends WARNING (R62, R47, R93); off, an INHIBITED shutter is resolved into another state and its request flag is
cleared; where the shutter is already as asked the request is accepted and changes nothing. A frame whose field is neither on nor off is
refused by its range (R89, notes/assumptions/26.md), with the state of the shutter where there is one, also while the field loop is
FAULTED (notes/assumptions/35.md). -/
def Obligations.ShutterRequests : Prop :=
  (∀ (l : LinkId) (i : Nat) (s : State), s.mayAsk l 68 →
     (∀ c ∈ [(68, Instr.shutterTest l i), (69, .shutterRaise l i), (70, .shutterInhibitOn l i), (70, .shutterInhibitOff l i)],
       (s.shutters.table.length ≤ i → ∃ t, exec c.2 s = .next t ∧ s.answeredOnly l c.1 .refusedRange [0xFF] t) ∧
       ∀ sh, s.shutter? i = some sh → s.loop.good = false →
         ∃ t, exec c.2 s = .next t ∧ s.answeredOnly l c.1 .refusedState (be 1 sh.state.code) t) ∧
     (∀ sh, s.shutter? i = some sh → sh.state ≠ .opened ∨
         s.floorMode? (s.shutterCfg i).floor = some .fire ∨ s.mayMove i = false →
       ∃ t, exec (.shutterTest l i) s = .next t ∧ s.answeredOnly l 68 .refusedState (be 1 sh.state.code) t) ∧
     (∀ sh, s.shutter? i = some sh → s.loop.good = true → sh.state = .opened →
       s.floorMode? (s.shutterCfg i).floor ≠ some .fire → s.mayMove i = true → s.closedLimit i = false →
       ∃ (t : State) (x : Shutter), exec (.shutterTest l i) s = .next t ∧ t.replies l 68 .accepted [5] ∧
         t.shutter? i = some x ∧ x.state = .dropping (some ((s.shutterCfg i).tDrop * 1000)) ∧ x.hold = false ∧
         x.since = s.clock.count ∧ t.latched .shutter ∧
         ((s.shutterCfg i).kind = 3 → s.drive.state = .warning → t.drive.state = .off) ∧
         ((s.shutterCfg i).kind ≠ 3 ∨ s.drive.state ∈ [.off, .level, .brake, .halt, .inch] → t.drive = s.drive))) ∧
  (∀ (l : LinkId) (i : Nat) (sh : Shutter) (s : State), s.mayAsk l 69 → s.shutter? i = some sh → s.loop.good = true →
     let floorOpen := ∃ m, s.floorMode? (s.shutterCfg i).floor = some m ∧ (m = .opened ∨ m = .warned ∨ m = .opening)
     ((sh.state = .closed ∨ sh.state = .jammed) → floorOpen → s.dropDemand i = false → s.supplyLow = false →
       ∃ (t : State) (x : Shutter), exec (.shutterRaise l i) s = .next t ∧ t.shutter? i = some x ∧
         t.replies l 69 .accepted (be 1 x.state.code) ∧
         (x.state = .waitSlot .up ∧ x.hold = sh.hold ∨ x.state = .raising ((s.shutterCfg i).tTravel * 1000) ∧ x.hold = true ∨
           x.state = .opened ∧ x.hold = true) ∧
         (s.openLimit i = true → ∀ n, x.state ≠ .raising n) ∧ (s.openLimit i = false → x.state ≠ .opened) ∧
         t.latched .shutter ∧ t.drive = s.drive ∧ t.clock = s.clock) ∧
     (sh.state = .waitSlot .up → ∃ t, exec (.shutterRaise l i) s = .next t ∧ s.answeredOnly l 69 .accepted [1] t) ∧
     (sh.state ≠ .waitSlot .up → ¬ (floorOpen ∧ s.dropDemand i = false ∧ s.supplyLow = false ∧
         (sh.state = .closed ∨ sh.state = .jammed)) →
       ∃ t, exec (.shutterRaise l i) s = .next t ∧ s.answeredOnly l 69 .refusedState (be 1 sh.state.code) t)) ∧
  (∀ (l : LinkId) (i : Nat) (sh : Shutter) (s : State), s.mayAsk l 70 → s.shutter? i = some sh → s.loop.good = true →
     ((sh.state = .opened ∨ sh.state = .closed ∨ sh.state = .jammed) → s.dropDemand i = false →
       ∃ (t : State) (x : Shutter), exec (.shutterInhibitOn l i) s = .next t ∧ t.replies l 70 .accepted [8] ∧
         t.shutter? i = some x ∧ x.state = .inhibited ∧ x.hold = true ∧ x.releasePending = false ∧
         x.inhibitedByRequest = true ∧ x.since = s.clock.count ∧ t.latched .shutter ∧
         let departs := sh.state = .opened ∧ (s.shutterCfg i).kind = 3
         (departs → s.drive.state ∈ [.reference, .accel, .run, .lastrun] →
           t.drive.stopCause = some (.fault .patShutterOpened) ∧ t.drive.released = false ∧ t.drive.vRef = 0 ∧
           (t.drive.state = .brake ∧ t.drive.brakeExit = some .halt ∨ t.drive.state = .halt) ∧
           (s.faults.records.length < 32 → t.faults.active .patShutterOpened 0)) ∧
         (departs → s.drive.state = .warning → t.drive.state = .off) ∧
         (¬ departs ∨ s.drive.state ∈ [.off, .level, .brake, .halt, .inch] → t.drive = s.drive)) ∧
     (sh.state = .inhibited → ∃ t, exec (.shutterInhibitOn l i) s = .next t ∧ s.answeredOnly l 70 .accepted [8] t) ∧
     ((sh.state ≠ .inhibited ∧ (s.dropDemand i = true ∨ ¬ (sh.state = .opened ∨ sh.state = .closed ∨ sh.state = .jammed))) →
       ∃ t, exec (.shutterInhibitOn l i) s = .next t ∧ s.answeredOnly l 70 .refusedState (be 1 sh.state.code) t) ∧
     (sh.state = .inhibited → ∃ (t : State) (x : Shutter), exec (.shutterInhibitOff l i) s = .next t ∧
       t.shutter? i = some x ∧ x.state ≠ .inhibited ∧ x.inhibitedByRequest = false ∧
       t.replies l 70 .accepted (be 1 x.state.code) ∧ t.latched .shutter) ∧
     (sh.state ≠ .inhibited → ∃ t, exec (.shutterInhibitOff l i) s = .next t ∧
       s.answeredOnly l 70 .accepted (be 1 sh.state.code) t)) ∧
  (∀ (l : LinkId) (i v : Nat) (s : State), s.mayAsk l 70 → i < 256 → 1 < v → v < 256 → (s.link l).receiver = .hunting →
     let state : List Byte := match s.shutter? i with
       | some sh => be 1 sh.state.code
       | none => [0xFF]
     ∃ t, exec (.requestFrame l (frameBytes 70 (be 1 i ++ be 1 v))) s = .next t ∧ s.answeredOnly l 70 .refusedRange state t)

/-- What a zone alarm does to a shutter (R71, R72), while the alarm itself leaves the chain as still as it was: where the drop demand
turns true, or the floor enters FIRE, inhibited_by_request is cleared and the shutter drops by its state, a paternoster-opening
shutter with the chain MOVING waiting in WAIT_STILL or for its hold (R70); a shutter that is neither waiting for a motor nor so
dropped is left as it was. That an UNKNOWN shutter of a FAULTED loop stays UNKNOWN, and that a hold already RELEASED stays so in
WAIT_STILL, is the model's choice (notes/assumptions/30.md).

The chain is deemed still (R73, R70): a shutter in WAIT_STILL drops or joins the list, and a pending release is carried out. -/
def Obligations.FireDropsShutters : Prop :=
  (∀ (l : LinkId) (z : Nat) (x : Zone) (fl : Floor) (i : Nat) (sh : Shutter) (s : State), s.mayAsk l 16 → z ≤ 15 →
     s.floors.zones[z]? = some x → x.alarm = false → s.floors.table[x.floor]? = some fl → s.shutter? i = some sh →
     s.tracker.still = true ∨ s.drive.released = false ∨ s.tracker.quietTime < 500 →
     let c := s.shutterCfg i
     let dropped := (s.dropDemand i = false ∧ c.zoneMask.testBit z = true) ∨ (fl.mode ≠ .fire ∧ c.floor = x.floor)
     let may := c.kind ≠ 3 ∨ s.tracker.still = true
     ∃ (t : State) (y : Shutter), exec (.zoneAlarm l z) s = .next t ∧ t.shutter? i = some y ∧
       let released := (may → y.hold = false ∧ y.releasePending = false) ∧
         (¬ may → y.hold = sh.hold ∧ y.releasePending = sh.hold)
       let fallen := y.hold = false ∧ y.releasePending = false ∧
         y.state = (if s.closedLimit i && !s.openLimit i then .closed else .dropping (some (c.tDrop * 1000)))
       (dropped → y.inhibitedByRequest = false ∧
         (sh.state = .opened ∨ sh.state = .inhibited ∨ sh.state.waiting = true ∨ sh.state.powered = true →
           (may → fallen) ∧
           (¬ may → y.state = .waitStill .drop ∧ y.hold = sh.hold ∧ y.releasePending = sh.releasePending)) ∧
         (sh.state = .unknown → s.loop.good = true → (s.openLimit i && s.closedLimit i) = false →
           (may → fallen) ∧ (¬ may → y.state = .waitStill .drop ∧ y.hold = sh.hold ∧ y.releasePending = sh.hold)) ∧
         (sh.state = .unknown → s.loop.good = false ∨ (s.openLimit i && s.closedLimit i) = true →
           y.state = .unknown ∧ released) ∧
         (∀ p, sh.state = .waitStill p →
           y.state = .waitStill .drop ∧ y.hold = sh.hold ∧ y.releasePending = sh.releasePending) ∧
         (sh.state = .closed ∨ (∃ n, sh.state = .dropping n) → y = { sh with inhibitedByRequest := false }) ∧
         (sh.state = .jammed → y.state = .jammed ∧ released)) ∧
       (¬ dropped → sh.state.waiting = false → y = sh)) ∧
  (∀ (i : Nat) (sh : Shutter) (s : State), s.shutter? i = some sh → s.drive.released = false → s.tracker.still = false →
     (i ∈ s.shutters.stillList ↔ sh.state.inWaitStill = true) →
     let c := s.shutterCfg i
     ∃ (t : State) (y : Shutter), exec .quietTimeExpiry s = .next t ∧ t.shutter? i = some y ∧
       (sh.state = .waitStill .drop → y.hold = false ∧ y.releasePending = false ∧
         y.state = (if s.closedLimit i && !s.openLimit i then .closed else .dropping (some (c.tDrop * 1000)))) ∧
       (sh.state = .waitStill .lower → y.state = .waitSlot .down ∨
         y.state = .lowering (c.tTravel * 1000) ∧ y.hold = true ∨ y.state = .closed ∧ y.hold = false) ∧
       (sh.releasePending = true → sh.state.waiting = false → sh.state.inWaitStill = false →
         y.hold = false ∧ y.releasePending = false ∧ (∀ n, sh.state = .dropping n → y.state = .dropping (some (c.tDrop * 1000))) ∧
         ((∀ n, sh.state ≠ .dropping n) → y.state = sh.state)) ∧
       (sh.releasePending = false → sh.state.waiting = false → sh.state.inWaitStill = false → y = sh))

/-- What a good scan brings to a shutter through its limits (R83 to R86, R74, R78), while it leaves the chain as still as it was: `o`
and `c` are the open and the closed limit before it, `no` and `nc` after it.

Both becoming active raise LIMIT_CONFLICT and leave every shutter but an INHIBITED one UNKNOWN; their end ends it and resolves an
UNKNOWN shutter. A limit lost where the state expects it, also out of both active, is a drift out of OPEN, WAIT_SLOT for DOWN and
WAIT_STILL, with SHUTTER_DRIFT, and leaves CLOSED and WAIT_SLOT for UP as UNKNOWN; a limit met ends a drop and a powered travel and takes a shutter
out of JAMMED; and an UNKNOWN shutter is resolved. A shutter whose limits do not change keeps its record.

Where both limits change in one scan, the limit lost is taken before the limit gained: the drift out of OPEN to CLOSED, and the
resolution of a CLOSED shutter or one in WAIT_SLOT for UP that gains its open limit, are the model's choice, and so is that such a
shutter which loses its closed limit out of both active is left UNKNOWN and not resolved (notes/assumptions/14.md).

The first good scan after a loop fault (R92) resolves every shutter from its limits as they then stand, but for one inhibited by
request without a demand, and a LIMIT_CONFLICT that they do not show ends (R91, R93). -/
def Obligations.LimitsDecide : Prop :=
  ∀ (sc : Scan) (bytes : List Byte) (s : State), s.loop.scan = some sc → s.drive.state ≠ .inch →
    s.tracker.still = true ∨ s.drive.released = false ∨ s.tracker.quietTime < 500 →
    ∃ t, exec (.scanEnd sc.word bytes) s = .next t ∧ ∀ (i : Nat) (sh : Shutter), s.shutter? i = some sh →
      let g := s.shutterCfg i
      let may := g.kind ≠ 3 ∨ s.tracker.still = true
      let room := s.faults.records.length + s.shutters.table.length + s.eng.callCount + 2 ≤ 32
      let o := s.openLimit i
      let c := s.closedLimit i
      let no := t.openLimit i
      let nc := t.closedLimit i
      ∃ y, t.shutter? i = some y ∧
        let released := (may → y.hold = false ∧ y.releasePending = false) ∧ (¬ may → y.hold = sh.hold ∧ y.releasePending = sh.hold)
        let drops := released ∧ (may → y.state = .dropping (some (g.tDrop * 1000))) ∧
          (¬ may → y.state = .dropping (if sh.hold then none else some (g.tDrop * 1000)))
        let resolved := (nc = true → no = false → y.state = .closed ∧ released) ∧
          (no = nc → y.state = .unknown ∧ y.hold = sh.hold ∧ y.releasePending = sh.releasePending) ∧
          (no = true → nc = false → sh.hold = false ∨ sh.releasePending = true → drops) ∧
          (no = true → nc = false → sh.hold = true → sh.releasePending = false →
            s.dropDemand i = true ∨ s.floorMode? g.floor = some .fire →
            (may → drops) ∧ (¬ may → y.state = .waitStill .drop ∧ y.hold = true)) ∧
          (no = true → nc = false → sh.hold = true → sh.releasePending = false → s.dropDemand i = false →
            (s.floorMode? g.floor = some .closing ∨ s.floorMode? g.floor = some .closed →
              t.floorMode? g.floor = some .closing ∧ y.hold = true ∧
              (may → y.state = .waitSlot .down ∨ y.state = .lowering (g.tTravel * 1000)) ∧
              (¬ may → y.state = .waitStill .lower)) ∧
            (s.floorMode? g.floor = some .opened ∨ s.floorMode? g.floor = some .warned ∨
                s.floorMode? g.floor = some .opening →
              y.state = .opened ∧ y.hold = true))
        let drifts := (room → ∃ r ∈ t.faults.records, r.isOf .shutterDrift i = true) ∧ released ∧
          (nc = true → y.state = .closed) ∧ (nc = false → may → y.state = .dropping (some (g.tDrop * 1000))) ∧
          (nc = false → ¬ may → y.state = .dropping (if sh.hold then none else some (g.tDrop * 1000)))
        let conflictOver := ∀ r ∈ t.faults.records, r.isOf .limitConflict i = true → r.active = false
        (s.loop.good = true →
          sh.state.waiting = false ∨ (∀ j, j ≠ i → s.openLimit j = t.openLimit j ∧ s.closedLimit j = t.closedLimit j) →
          (o = no → c = nc → sh.state.waiting = false → y = sh) ∧
          (no = true → nc = true → (o && c) = false →
            (room → t.faults.active .limitConflict i) ∧ (sh.state = .inhibited → y = sh) ∧
            (sh.state ≠ .inhibited → y.state = .unknown ∧ y.hold = sh.hold ∧ y.releasePending = sh.releasePending)) ∧
          (o = true → c = true → (no && nc) = false →
            conflictOver ∧ (sh.state = .unknown → resolved) ∧ (sh.state = .inhibited → y = sh)) ∧
          (sh.state = .opened ∨ sh.state = .waitSlot .down ∨ sh.state.inWaitStill = true →
            (o = true → no = false → drifts) ∧
            (o = true → c = true → no = true → nc = false → sh.state.waiting = false → y = sh) ∧
            (o = false → c = false → no = true → nc = false → sh.state.waiting = false → y = sh)) ∧
          (sh.state = .closed ∨ sh.state = .waitSlot .up → c = true → nc = false →
            (no = false ∨ o = true → y.state = .unknown ∧ y.hold = sh.hold ∧ y.releasePending = sh.releasePending) ∧
            (no = true → o = false → resolved)) ∧
          (∀ n, sh.state = .lowering n → (o && c) = false → o ≠ no ∨ c ≠ nc →
            (nc = true → no = false → y.state = .closed ∧ released) ∧ (nc = false → y = sh)) ∧
          (∀ n, sh.state = .raising n → (o && c) = false → o ≠ no ∨ c ≠ nc →
            (no = true → nc = false → y.state = .opened ∧ y.hold = sh.hold) ∧ (no = false → y = sh)) ∧
          (∀ n, sh.state = .dropping n → (o && c) = false →
            (c = false → nc = true → no = false → y.state = .closed ∧ y.hold = sh.hold) ∧
            (nc = false → y = sh)) ∧
          (sh.state = .jammed → (o && c) = false →
            (c = false → nc = true → no = false → y.state = .closed ∧ released) ∧
            (o = false → no = true → nc = false → sh.hold = true → s.dropDemand i = false →
              s.floorMode? g.floor = some .opened ∨ s.floorMode? g.floor = some .warned ∨
                s.floorMode? g.floor = some .opening → y.state = .opened ∧ y.hold = true) ∧
            (no = true → nc = false → sh.hold = false ∨ s.dropDemand i = true ∨ s.floorMode? g.floor = some .closed ∨
                s.floorMode? g.floor = some .closing ∨ s.floorMode? g.floor = some .fire → y = sh) ∧
            (no = false → nc = false → y = sh)) ∧
          (sh.state = .inhibited → (no && nc) = false → (o && c) = false → y = sh) ∧
          (sh.state = .unknown → o ≠ no ∨ c ≠ nc → (no && nc) = false → resolved)) ∧
        (s.loop.good = false →
          ((no && nc) = false → conflictOver) ∧
          (sh.inhibitedByRequest = true → s.dropDemand i = false → s.floorMode? g.floor ≠ some .fire →
            y.state = .inhibited ∧ y.hold = true ∧ y.releasePending = false) ∧
          (sh.inhibitedByRequest = false ∨ s.dropDemand i = true ∨ s.floorMode? g.floor = some .fire →
            resolved ∧ (no = true → nc = true → room → t.faults.active .limitConflict i)))

/-- What a good scan brings to the other owners of the inputs, with the loop GOOD (R167).

A paternoster-opening shutter that loses its open limit out of OPEN departs (R84, R93): in REFERENCE, ACCEL, RUN and LASTRUN the drive
brakes to HALT, and where no trip becomes active beside it, it raises PAT_SHUTTER_OPENED and has that as its stop_cause (R62); WARNING
ends in OFF (R47), and in any other state the departure raises nothing and the drive, where no trip becomes active, does not change.

A landing trip that becomes active (R60) raises TRIP: a chain that is driven brakes to HALT, LEVEL in phase SETTLING and BRAKE go
on to HALT, WARNING ends in OFF, OFF and HALT stay; INCH takes no notice: no TRIP record comes or changes.

The first press on a call point (R105): it renews the PENDING entry of its point, makes a new entry where there is none and the
table has room, takes the place of the first ended one where it has not, and is dropped with CALLS_DROPPED where every entry is
PENDING.

An answer push (R115): it answers the PENDING entry that the line's last_call names, of which no line then holds a request,
and has no effect while the fire ring applies or where there is no such entry.

The first good scan that began after INCH was accepted (R64) releases the brake, and the ramp begins. -/
def Obligations.ScanBringsEvents : Prop :=
  ∀ (sc : Scan) (bytes : List Byte) (s : State), s.loop.scan = some sc → s.loop.good = true →
    ∃ t, exec (.scanEnd sc.word bytes) s = .next t ∧
      let newly := fun (p : Nat) => s.input p = false ∧ t.input p = true
      let limitsStay := ∀ i, i < s.shutters.table.length → s.openLimit i = t.openLimit i ∧ s.closedLimit i = t.closedLimit i
      let tripped := ∃ p ∈ s.eng.trips.take (2 * s.eng.floorCount), newly p
      let pressed := (List.range s.eng.callCount).filter fun p =>
        !s.input (s.eng.callPoints.getD p ⟨0, 0, 0⟩).input && t.input (s.eng.callPoints.getD p ⟨0, 0, 0⟩).input
      let answered := (List.range s.eng.floorCount).filter fun f =>
        !s.input (s.eng.lines.getD f ⟨0, 0, 0⟩).answer && t.input (s.eng.lines.getD f ⟨0, 0, 0⟩).answer
      let stamp := if s.clock.isSet then s.clock.count else 0
      let delivers := ∃ i, s.drive.state = .inch ∧ s.drive.inch = some i ∧ i.scanBegun = true ∧ i.started = false
      (∀ i sh, s.shutter? i = some sh → (s.shutterCfg i).kind = 3 → sh.state = .opened → s.openLimit i = true →
        t.openLimit i = false →
        (s.drive.state ∈ [.reference, .accel, .run, .lastrun] →
          t.drive.released = false ∧ t.drive.enable = false ∧ t.drive.vRef = 0 ∧
          (t.drive.state = .brake ∧ t.drive.brakeExit = some .halt ∨ t.drive.state = .halt) ∧
          (¬ tripped → t.drive.stopCause = some (.fault .patShutterOpened) ∧
            (t.drive.state = .halt → t.drive.haltCause = some .patShutterOpened) ∧
            (s.faults.records.length + s.shutters.table.length < 32 → t.faults.active .patShutterOpened 0))) ∧
        (s.drive.state = .warning → t.drive.state = .off) ∧
        (¬ tripped → s.drive.state ∈ [.off, .level, .brake, .halt] → t.drive = s.drive) ∧
        (s.drive.state ∉ [.reference, .accel, .run, .lastrun] →
          (∀ x ∈ s.faults.records, x.isOf .patShutterOpened 0 = false) →
          ∀ x ∈ t.faults.records, x.isOf .patShutterOpened 0 = false)) ∧
      (limitsStay → tripped →
        ((s.drive.driven = true ∧ s.drive.state ≠ .inch) ∨ s.drive.settling = true →
          t.drive.stopCause = some (.fault .trip) ∧ t.drive.released = false ∧ t.drive.vRef = 0 ∧
          (t.drive.state = .brake ∧ t.drive.brakeExit = some .halt ∨ t.drive.state = .halt) ∧
          ∀ v, t.drive.level = some v → v.phase = .ended) ∧
        (s.drive.state = .brake → s.drive.brakeExit = some .off → t.drive.state = .brake ∧
          t.drive.brakeExit = some .halt ∧ t.drive.stopCause = some (.fault .trip)) ∧
        (s.drive.state = .warning → t.drive.state = .off) ∧
        (s.drive.state = .off ∨ s.drive.state = .halt → t.drive = s.drive) ∧
        (s.drive.state ≠ .inch → s.faults.records.length < 32 → t.faults.active .trip 0) ∧
        (s.drive.state = .inch → t.drive.state = .inch ∧ (pressed = [] →
          (∀ r : FaultRec, r.isOf .trip 0 = true → (r ∈ t.faults.records ↔ r ∈ s.faults.records)) ∧
          (¬ delivers → t.faults = s.faults)))) ∧
      (∀ p, limitsStay → ¬ tripped → pressed = [p] → answered = [] →
        let pending := s.bells.calls.filter fun c => c.callPoint == p && c.state == .pending
        let code := (s.eng.callPoints.getD p ⟨0, 0, 0⟩).code
        (∀ c, pending.head? = some c → (∀ d ∈ s.bells.calls, d.callId = c.callId → d = c) → ∃ d, t.call? c.callId = some d ∧
          d.presses = min 255 (c.presses + 1) ∧ d.callPoint = p ∧ d.raisedAt = c.raisedAt ∧
          (s.firePresent = true → d = { c with presses := d.presses, roundsDone := 0, nextDue := some 0 }) ∧
          (s.firePresent = false → d.roundsDone ≤ 1 ∧
            (d.roundsDone = 0 → d.state = .pending ∧ d.nextDue = some 0 ∧
              ∃ ls, d.roundLines = some ls ∧ ∀ n ∈ ls, n ∈ s.lineNumbers ∧
                ((s.store.op.codes.getD (c.code - 1) ⟨[], 0⟩).mask).testBit n = true))) ∧
        (pending = [] → s.bells.calls.length < 24 → (∀ c ∈ s.bells.calls, c.callId ≠ s.bells.nextCallId) →
          ∃ d, t.call? s.bells.nextCallId = some d ∧ t.bells.calls.length = s.bells.calls.length + 1 ∧
          d.callPoint = p ∧ d.code = code ∧ d.raisedAt = stamp ∧ d.presses = 1 ∧ t.latched .callRaised ∧
          t.bells.nextCallId = (if s.bells.nextCallId = 65535 then 1 else s.bells.nextCallId + 1) ∧
          (s.firePresent = true → d.state = .pending ∧ d.nextDue = some 0 ∧ d.roundLines = none ∧ d.roundsDone = 0)) ∧
        (pending = [] → s.bells.calls.length = 24 → (∀ c ∈ s.bells.calls, c.callId ≠ s.bells.nextCallId) →
          ∀ a x b, s.bells.calls = a ++ x :: b → x.state ≠ .pending → (∀ c ∈ a, c.state = .pending) →
          (∀ c ∈ a ++ b, c.callId ≠ x.callId) →
          ∃ d, t.call? s.bells.nextCallId = some d ∧ d.callPoint = p ∧ d.presses = 1 ∧ t.call? x.callId = none ∧
            t.bells.calls.length = 24 ∧ t.latched .callRaised) ∧
        (pending = [] → 24 ≤ s.bells.calls.length → (∀ c ∈ s.bells.calls, c.state = .pending) →
          t.bells.calls = s.bells.calls ∧ (¬ delivers → t.faults = s.faults.raise .callsDropped p s.clock.count))) ∧
      (∀ f, limitsStay → ¬ tripped → pressed = [] → answered = [f] →
        (∀ k id c, s.line? f = some k → k.lastCall = some id → s.call? id = some c → c.state = .pending →
          s.ringApplies = false → t.latched .callEnded ∧ t.call? id = some { c with
            state := .answered, answeredFloor := some f, endedAt := some stamp, nextDue := none, roundLines := none } ∧
          ∀ n x, t.line? n = some x → x.holdsCall id = false) ∧
        (s.ringApplies = true ∨
            (∀ k id c, s.line? f = some k → k.lastCall = some id → s.call? id = some c → c.state ≠ .pending) →
          t.bells = s.bells)) ∧
      (∀ i, s.drive.state = .inch → s.drive.inch = some i → i.scanBegun = true → i.started = false →
        t.drive = { s.drive with
          inch := some { i with started := true }, rampLeft := 10, released := true, enable := true, sinceRelease := 0
          wasReleased := true, overspeedCount := 0, stallCount := 0 } ∧
        t.tracker = { s.tracker with brakeAppliedTime := 0, unconfirmedRaised := false, still := false }) ∧
      (∀ i, s.drive.state = .inch → s.drive.inch = some i → i.scanBegun = false ∨ i.started = true →
        t.drive = s.drive)

/-! ### The bells -/

/-- The strokes of a line (R98, R100, R109): each switches the drive ON for 80 ms, the next stroke of a pattern and each stroke
of the fire ring begin one, and a pattern with no further stroke ends.

The end of a pattern (R109): a CLOSING and a TROUBLE have no effect, a CALL sets last_call on a floor line and leaves its round, which
is complete with its last line (R107), and a START_WARNING is reported to the drive (R46); the line is idle then, and its arbiter
looks: the fire ring where it applies, else the next request of the queue.

The end of a stroke (R98, R99), of a pattern, of the fire ring and of a tail alike: with the loop GOOD a good stroke clears the faulty
run, a faulty one counts, and the second in a row faults the line, which then sounds and holds nothing, with BELL_LINE; with the loop
FAULTED it is not judged. A pattern and the ring go on; at the end of a tail the line is idle and its arbiter looks (R110).

The end of a stroke that an apply left on a line of the old configuration (R121): its point goes off and nothing is judged. That it is
taken before a stroke of the new line of that number (notes/assumptions/12.md), and that the point goes off whatever it serves now
(notes/assumptions/32.md), is the model's choice. -/
def Obligations.Strokes : Prop :=
  (∀ (n : Nat) (k : Line) (s : State), s.line? n = some k →
     (∀ c g j, k.activity = .pattern c → c.next? = some (g, j) → ∃ t, exec (.strokeStart n) s = .next t ∧
       s.keepsAllBut [.bells, .loop] t ∧ t.line? n = some { k with
         activity := .pattern { c with group := g, stroke := j, sinceStroke := 0 }, drive := true, strokeLeft := 80 } ∧
       (∀ m, m ≠ n → t.line? m = s.line? m) ∧ t.loop = { s.loop with out := s.loop.out.set (s.drivePoint n) true }) ∧
     (∀ x, k.activity = .fire x → ∃ t, exec (.fireRingStroke n) s = .next t ∧ s.keepsAllBut [.bells, .loop] t ∧
       t.line? n = some { k with activity := .fire 0, drive := true, strokeLeft := 80 } ∧
       (∀ m, m ≠ n → t.line? m = s.line? m) ∧ t.loop = { s.loop with out := s.loop.out.set (s.drivePoint n) true }) ∧
     ((∀ c, k.activity ≠ .pattern c) → exec (.strokeStart n) s = .next s ∧ exec (.patternEnd n) s = .next s) ∧
     ((∀ x, k.activity ≠ .fire x) → exec (.fireRingStroke n) s = .next s)) ∧
  (∀ (n : Nat) (k : Line) (c : Current) (s : State), s.line? n = some k → k.faulted = false → k.activity = .pattern c →
     c.next? = none →
     (c.req.cls = .closing ∨ c.req.cls = .trouble → ∃ t, exec (.patternEnd n) s = .next t ∧
       s.keepsAllBut [.bells, .loop] t ∧ t.bells.calls = s.bells.calls ∧ s.lineServed n k s.loop.out t) ∧
     (c.req.cls = .call → ∃ t, exec (.patternEnd n) s = .next t ∧ s.actsOn [.bells, .loop] t ∧
       s.lineServed n { k with lastCall := if n = 8 then k.lastCall else c.req.callId } s.loop.out t ∧
       ∀ id d ls, c.req.callId = some id → s.call? id = some d → d.state = .pending → d.roundLines = some ls → n ∈ ls →
         (ls.erase n ≠ [] → t.call? id = some { d with roundLines := some (ls.erase n) }) ∧
         (ls.erase n = [] → d.roundsDone + 1 ≠ s.eng.nRepeat → t.call? id = some { d with
           roundsDone := d.roundsDone + 1, roundLines := none, nextDue := some (s.eng.tRepeat * 1000) }) ∧
         (ls.erase n = [] → d.roundsDone + 1 = s.eng.nRepeat → t.latched .callEnded ∧ t.call? id = some { d with
           roundsDone := d.roundsDone + 1, roundLines := none, nextDue := none, state := .expired
           endedAt := some (if s.clock.isSet then s.clock.count else 0) })) ∧
     (∀ ls, c.req.cls = .startWarning → s.drive.state = .warning → s.drive.warningLines = some ls → n ∈ ls →
       ls.erase n ≠ [] → ∃ t, exec (.patternEnd n) s = .next t ∧ s.keepsAllBut [.drive, .bells, .loop] t ∧
         t.drive = { s.drive with warningLines := some (ls.erase n) } ∧ s.lineServed n k s.loop.out t)) ∧
  (∀ (n : Nat) (k : Line) (s : State), s.line? n = some k → k.drive = true → (∀ o ∈ s.bells.oldTails, o.line ≠ n) →
     let off := { k with drive := false, strokeLeft := 0 }
     let silent := s.loop.out.set (s.drivePoint n) false
     let ends := fun (x : Line) => ∃ t, exec (.strokeEnd n) s = .next t ∧ s.keepsAllBut [.bells, .loop] t ∧
       (k.activity ≠ .tail → t.line? n = some x ∧ (∀ m, m ≠ n → t.line? m = s.line? m) ∧
         t.loop = { s.loop with out := silent }) ∧
       (k.activity = .tail → k.faulted = false → s.lineServed n x silent t)
     (s.loop.good = false → ends off) ∧
     (s.loop.good = true → s.senseActive n = true → ends { off with faultyRun := 0 }) ∧
     (s.loop.good = true → s.senseActive n = false → k.faultyRun = 0 → ends { off with faultyRun := 1 }) ∧
     (s.loop.good = true → s.senseActive n = false → 1 ≤ k.faultyRun → ∃ (t : State) (x : Line),
       exec (.strokeEnd n) s = .next t ∧ t.line? n = some x ∧ x.faulted = true ∧ x.activity = .idle ∧ x.queue = [] ∧
       x.drive = false ∧ x.lastCall = k.lastCall ∧ (s.faults.records.length < 32 → t.faults.active .bellLine n))) ∧
  (∀ (n : Nat) (s : State),
     (∀ a b o, s.bells.oldTails = a ++ o :: b → o.line = n → (∀ x ∈ a, x.line ≠ n) → ∃ t, exec (.strokeEnd n) s = .next t ∧
       s.keepsAllBut [.bells, .loop] t ∧ t.bells = { s.bells with oldTails := a ++ b } ∧
       t.loop = { s.loop with out := s.loop.out.set o.point false }) ∧
     ((∀ o ∈ s.bells.oldTails, o.line ≠ n) → (∀ k, s.line? n = some k → k.drive = false) →
       exec (.strokeEnd n) s = .next s))

/-- A request is placed in a queue after every waiting request of its own or a higher class and before every one of a lower
class, and so a queue in rank order stays in rank order (R108).

Every step keeps the law of the sound queues: the queue of each bell line holds at most 8 requests in the order of their classes, at
most one for a call entry, and on the counting-house line at most one TROUBLE (R108, R112).

Every step keeps the law of the playout queue: at most 8 entries in the order of their classes, no slot twice and never the slot on
air (R147). -/
def Obligations.QueuesKeepTheirRank : Prop :=
  (∀ (r : SoundReq) (q : List SoundReq), q.Pairwise (fun a b => a.cls.code ≤ b.cls.code) →
    (insertReq r q).Pairwise (fun a b => a.cls.code ≤ b.cls.code) ∧
    insertReq r q = q.filter (fun a => a.cls.code ≤ r.cls.code) ++ r :: q.filter fun a => r.cls.code < a.cls.code) ∧
  (∀ s t : State, s.soundQueuesLawful → step s = .next t → t.soundQueuesLawful) ∧
  (∀ s t : State, s.announce.queueLawful → step s = .next t → t.announce.queueLawful)

/-- A round falls due (R106): with a floor in FIRE it only stands due; otherwise the lines of its code that take the request
join the round, and a round with none of them is complete at once.

CANCEL_CALL (R116): the PENDING entry of the call point is EXPIRED, and no line holds a request of it.

CLEAR_CALLS (R117): the ANSWERED and the EXPIRED entries go, the others keep their order, every last_call that names one
that went is emptied, and no event is set.

WRITE_CODE (R102): codes 1 to 31, one to four groups of one to six strokes, and a mask that only codes 4 to 31 have; the
reply gives the code and the length of its pattern in milliseconds (R100). That the places of groups that it has not are sent 0,
and that a refusal sends the whole absent, is the model's choice (notes/assumptions/6.md). -/
def Obligations.CallsAndCodes : Prop :=
  (∀ (id : Nat) (c : Call) (s : State), s.call? id = some c → c.state = .pending → c.roundLines = none →
     (s.firePresent = true → ∃ t, exec (.callRepeatDue id) s = .next t ∧ s.keepsAllBut [.bells] t ∧
       t.call? id = some { c with nextDue := some 0 } ∧ t.bells.lines = s.bells.lines) ∧
     (s.firePresent = false →
       let ls := (s.codeLines c.code).filter fun n => s.takesReq n ⟨.call, c.code, some id⟩
       ∃ t, exec (.callRepeatDue id) s = .next t ∧ s.actsOn [.bells, .loop] t ∧
         (ls ≠ [] → t.call? id = some { c with nextDue := some 0, roundLines := some ls }) ∧
         (ls = [] → c.roundsDone + 1 ≠ s.eng.nRepeat → t.call? id = some { c with
           roundsDone := c.roundsDone + 1, nextDue := some (s.eng.tRepeat * 1000) }) ∧
         (ls = [] → c.roundsDone + 1 = s.eng.nRepeat → t.latched .callEnded ∧ t.call? id = some { c with
           roundsDone := c.roundsDone + 1, nextDue := none, state := .expired
           endedAt := some (if s.clock.isSet then s.clock.count else 0) }))) ∧
  (∀ (l : LinkId) (p : Nat) (s : State), s.mayAsk l 43 →
     (∀ c, p < s.eng.callCount → s.bells.calls.find? (fun c => c.callPoint == p && c.state == .pending) = some c →
       (∀ d ∈ s.bells.calls, d.callId = c.callId → d = c) →
       ∃ t, exec (.cancelCall l p) s = .next t ∧ s.acceptedWith l 43 (be 2 c.callId) [.bells, .loop] t ∧
         t.latched .callEnded ∧ t.call? c.callId = some { c with
           state := .expired, nextDue := none, roundLines := none, answeredFloor := none
           endedAt := some (if s.clock.isSet then s.clock.count else 0) } ∧
         ∀ n x, t.line? n = some x → x.holdsCall c.callId = false) ∧
     (p < s.eng.callCount → (∀ c ∈ s.bells.calls, c.callPoint = p → c.state ≠ .pending) →
       ∃ t, exec (.cancelCall l p) s = .next t ∧ s.answeredOnly l 43 .refusedState [0xFF, 0xFF] t) ∧
     (s.eng.callCount ≤ p → ∃ t, exec (.cancelCall l p) s = .next t ∧ s.answeredOnly l 43 .refusedRange [0xFF, 0xFF] t)) ∧
  (∀ (l : LinkId) (s : State), s.mayAsk l 44 →
     let ended := fun (c : Call) => c.state == .answered || c.state == .expired
     let gone := fun (id : Nat) => s.bells.calls.any fun c => ended c && c.callId == id
     ∃ t, exec (.clearCalls l) s = .next t ∧ s.acceptedWith l 44 (be 1 (s.bells.calls.countP ended)) [.bells] t ∧
       t.bells = { s.bells with
         calls := s.bells.calls.filter fun c => !ended c
         lines := s.bells.lines.map fun k => if k.lastCall.any gone then { k with lastCall := none } else k } ∧
       ∀ m, (t.link m).latches = ((refresh l s).link m).latches) ∧
  (∀ (l : LinkId) (code count a b c d : Nat) (mask : Word) (s : State), s.mayAsk l 42 → opSized s.store.op →
     let groups := [a, b, c, d].take count
     let ok := 1 ≤ code ∧ code ≤ 31 ∧ 1 ≤ count ∧ count ≤ 4 ∧ (∀ g ∈ groups, 1 ≤ g ∧ g ≤ 6) ∧ mask.toNat < 512 ∧
       (code ≤ 3 → mask = 0)
     (ok → ∃ t, exec (.writeCode l code count [a, b, c, d] mask) s = .next t ∧
       s.acceptedWith l 42 (be 1 code ++ be 1 count ++ ((groups ++ List.replicate (4 - count) 0).flatMap (be 1)) ++
         be 2 mask.toNat ++ be 2 (300 * (groups.map (· - 1)).sum + 1000 * (count - 1) + 2000)) [.store] t ∧
       t.store = { s.store with op := { s.store.op with codes := s.store.op.codes.set (code - 1) ⟨groups, mask.toNat⟩ } } ∧
       t.store.op.codes[code - 1]? = some ⟨groups, mask.toNat⟩) ∧
     (¬ ok → ∃ t, exec (.writeCode l code count [a, b, c, d] mask) s = .next t ∧
       s.answeredOnly l 42 .refusedRange (List.replicate 10 0xFF) t))

/-! ### The clock and the closing -/

/-- SECOND_TICK in the clock (R122, R123): the count is incremented modulo 2^32, the prescaler restarts with the length that the
trim gives, and at midnight the exception list keeps no past day and a plan record that is not carried is for the new day; a
wrap empties the list (R132). At midnight and at a wrap a record that is not carried is rebuilt by R133 and evaluated: base_close comes
from the exception of the day or else from the schedule (R129), with the markers, the holds and the status by its four steps; one that is
carried stands as it was where no stage of it is due, as any record does at any other second. A record given before a wrap bears a mark of
the model's own (notes/assumptions/25.md). That the length of the second is taken from the prescaler, so that the next second begins from
what is over, is the model's choice (notes/assumptions/11.md).

The CLOSE stage at its time T (R134, R135, R138): the earlier stages are done, position 0 is taken, its floor leaves OPEN,
WARNED or OPENING for CLOSING or, its shutters done, CLOSED, the drive takes the closing-begun notice by its state (R49) and the shutters
of the floor are lowered by theirs (R75), where the notice leaves the chain as still as it was; any other floor is passed over, and the next
position waits for the stagger; with a stagger of 0 every position is taken at once, and the record is DONE. That the BRAKE of a chain in
REFERENCE that is deemed still at that moment is left at once is the model's reading (notes/assumptions/28.md), and that the drive takes
the notice before the shutters are lowered its choice (notes/assumptions/8.md).

The WARN1 stage (R136) warns every OPEN floor, places a CLOSING request on every line that has room, and queues script slot 0;
the WARN2 stage (R137) queues slot 1 and touches no floor and no line, and a WARN1 not done with it is SKIPPED (R135). -/
def Obligations.SecondsAndStages : Prop :=
  (∀ s : State, ∃ t, exec .secondTick s = .next t ∧
     t.clock = { s.clock with
       count := (s.clock.count + 1) % 4294967296, prescaler := s.clock.prescaler - s.clock.secondLength
       secondLength := s.nextSecond } ∧
     (0 < t.clock.count → t.clock.count % 86400 = 0 →
       (∀ x ∈ t.store.op.exceptions, t.clock.count / 86400 ≤ x.day) ∧
       (s.clock.isSet = true → s.supervising = true → s.plan.status ≠ .waiting → s.plan.status ≠ .running →
         t.plan.day = t.clock.count / 86400)) ∧
     (t.clock.count = 0 → t.store.op.exceptions = []) ∧
     let old := if t.clock.count = 0 then { s.plan with beforeWrap := true } else s.plan
     (t.clock.count % 86400 = 0 → ¬ t.carries old → t.planRebuilt old) ∧
     (t.clock.count % 86400 ≠ 0 ∨ t.carries old → t.planStands old → t.plan = old)) ∧
  (∀ s : State, s.plan.status = .waiting → s.clock.isSet = true → s.supervising = true →
     s.firePresent = false → s.plan.beforeWrap = false → s.clock.count + 1 < 4294967296 → (s.clock.count + 1) % 86400 ≠ 0 →
     let close := s.plan.baseClose.getD 0 + 60 * s.plan.holdTotal
     let w1 := close - 60 * s.store.op.w1
     let w2 := close - 60 * s.store.op.w2
     let now := s.clock.count + 1
     let closeable := fun (fl : Floor) => fl.mode = .opened ∨ fl.mode = .warned ∨ fl.mode = .opening
     let noticeKeepsStill := s.drive.state ≠ .reference ∨ s.tracker.still = true ∨ s.drive.released = false ∨
       s.tracker.quietTime < 500
     let closes := fun (fl gl : Floor) => if fl.mode = .opened ∨ fl.mode = .warned ∨ fl.mode = .opening then
       (gl.mode = .closing ∨ gl.mode = .closed) ∧ gl.modeSince = now else gl.mode = fl.mode
     let queues := fun (slot : Nat) (t : State) => s.copy? slot ≠ none → t.queued slot = true ∨ t.onAir slot = true
     (∀ (f : Nat) (fl : Floor), close ≤ now → 1 < s.eng.floorCount → 0 < s.store.op.stagger →
       s.store.op.order[0]? = some f → s.floors.table[f]? = some fl →
       ∃ (t : State) (gl : Floor), exec .secondTick s = .next t ∧ t.plan.warn1 ≠ .pending ∧ t.plan.warn2 ≠ .pending ∧
         t.plan.close = .taken ∧ t.plan.status = .running ∧ t.plan.nextPosition = 1 ∧
         t.plan.positionWait = some (s.store.op.stagger * 1000) ∧ t.floors.table[f]? = some gl ∧ closes fl gl ∧
         t.latched .closingStage ∧ queues 2 t ∧ (¬ closeable fl → t.drive = s.drive ∧ t.shutters = s.shutters) ∧
         (closeable fl → s.takesNotice t ∧ (noticeKeepsStill → s.lowersFloor f t))) ∧
     (close ≤ now → s.store.op.stagger = 0 → 0 < s.eng.floorCount → s.eng.floorCount ≤ 8 → s.planDayPast = false →
       ∃ t, exec .secondTick s = .next t ∧ t.plan.close = .taken ∧ t.plan.status = .done ∧
         t.plan.nextPosition = s.eng.floorCount ∧ t.plan.positionWait = none ∧
         ∀ (f : Nat) (fl : Floor), f ∈ s.store.op.order.take s.eng.floorCount → s.floors.table[f]? = some fl →
           fl.mode = .opened ∨ fl.mode = .warned ∨ fl.mode = .opening →
           ∃ gl, t.floors.table[f]? = some gl ∧ (gl.mode = .closing ∨ gl.mode = .closed)) ∧
     (now < close → s.plan.warn1 = .pending → w1 ≤ now → s.plan.warn2 ≠ .pending ∨ now < w2 →
       ∃ t, exec .secondTick s = .next t ∧ t.plan = { s.plan with warn1 := .taken } ∧ t.latched .closingStage ∧ queues 0 t ∧
         (∀ (f : Nat) (fl : Floor), s.floors.table[f]? = some fl → ∃ gl, t.floors.table[f]? = some gl ∧
           (fl.mode = .opened → gl.mode = .warned ∧ gl.modeSince = now) ∧
           (fl.mode ≠ .opened → gl.mode = fl.mode ∧ gl.modeSince = fl.modeSince)) ∧
         t.shutters = s.shutters ∧ t.drive = s.drive ∧
         ∀ (n : Nat) (k : Line), s.line? n = some k → k.faulted = false → k.queue.length < 8 →
           ∃ x, t.line? n = some x ∧ (⟨.closing, 2, none⟩ ∈ x.queue ∨ x.current? = some ⟨.closing, 2, none⟩)) ∧
     (now < close → s.plan.warn2 = .pending → w2 ≤ now → s.plan.warn1 ≠ .pending ∨ w1 < w2 →
       ∃ t, exec .secondTick s = .next t ∧ t.latched .closingStage ∧ queues 1 t ∧
         t.plan = { s.plan with
           warn1 := if s.plan.warn1 = .pending then .skipped else s.plan.warn1, warn2 := .taken } ∧
         t.floors = s.floors ∧ t.shutters = s.shutters ∧ t.bells = s.bells ∧ t.drive = s.drive))

/-- The next position of a RUNNING record (R138): its floor enters CLOSING where it is OPEN, WARNED or OPENING, the drive taking the
closing-begun notice (R49) and the shutters of the floor being lowered (R75) where the notice leaves the chain as still as it was, and
after the last position the record is DONE; with none waited for nothing changes. That the BRAKE of a chain in REFERENCE that is deemed
still at that moment is left at once is the model's reading (notes/assumptions/28.md), and that the drive takes the notice before the
shutters are lowered its choice (notes/assumptions/8.md).

CLOSE_NOW (R141) outside RUNNING: the warnings not done are SKIPPED, the CLOSE stage is taken from position 0, and the first
floor of the order enters CLOSING where it can and is passed over where it cannot; while RUNNING the next position is taken at
once; it is refused with a floor in FIRE, nothing to close or the clock not set.

HOLD_CLOSING (R139): while WAITING the total grows by the minutes, up to 120, and the reply gives the moved closing time;
outside 1 to 60 minutes, and in any other status, it is refused, with T where base_close is a time and absent where it is NONE
(R131, R183). That a refused HOLD_CLOSING sends both forms of T (notes/assumptions/6.md), that the second of day beside a T beyond the
wrap of the store count is that of the T not wrapped (notes/assumptions/22.md), and that the minutes are tested before the status
(notes/assumptions/35.md), is the model's choice. -/
def Obligations.ClosingProceeds : Prop :=
  let closeable := fun (fl : Floor) => fl.mode = .opened ∨ fl.mode = .warned ∨ fl.mode = .opening
  let noticeKeepsStill := fun (s : State) => s.drive.state ≠ .reference ∨ s.tracker.still = true ∨ s.drive.released = false ∨
    s.tracker.quietTime < 500
  (∀ (i f : Nat) (fl : Floor) (s : State),
     (s.plan.status = .running → (∃ n, s.plan.positionWait = some n) → s.plan.nextPosition = i →
       s.store.op.order[i]? = some f → s.floors.table[f]? = some fl →
       ∃ (t : State) (gl : Floor), exec .positionWaitExpiry s = .next t ∧
         (i + 1 < s.eng.floorCount → 0 < s.store.op.stagger →
           t.plan = { s.plan with nextPosition := i + 1, positionWait := some (s.store.op.stagger * 1000) }) ∧
         (s.eng.floorCount ≤ i + 1 → s.planDayPast = false →
           t.plan = { s.plan with nextPosition := i + 1, positionWait := none, status := .done }) ∧
         t.latched .closingStage ∧ t.clock = s.clock ∧ t.floors.table[f]? = some gl ∧
         (closeable fl → gl.mode = .closing ∨ gl.mode = .closed) ∧
         (i + 1 < s.eng.floorCount ∧ 0 < s.store.op.stagger ∨ s.eng.floorCount ≤ i + 1 ∧ s.planDayPast = false →
           (¬ closeable fl → t.drive = s.drive ∧ t.shutters = s.shutters) ∧
           (closeable fl → s.takesNotice t ∧ (noticeKeepsStill s → s.lowersFloor f t)))) ∧
     (s.plan.status ≠ .running ∨ s.plan.positionWait = none → exec .positionWaitExpiry s = .next s)) ∧
  (∀ (l : LinkId) (s : State), s.mayAsk l 37 →
     (∀ (f : Nat) (fl : Floor), s.plan.status ≠ .running → s.firePresent = false → s.clock.isSet = true →
       (∃ g ∈ s.store.op.order, ∃ gl, s.floors.table[g]? = some gl ∧
         (gl.mode = .opened ∨ gl.mode = .warned ∨ gl.mode = .opening)) → 1 < s.eng.floorCount →
       0 < s.store.op.stagger → s.store.op.order[0]? = some f → s.floors.table[f]? = some fl →
       ∃ (t : State) (gl : Floor), exec (.closeNow l) s = .next t ∧
         t.replies l 37 .accepted (be 1 2 ++ be 1 (setBits t.stillToClose)) ∧
         t.plan = { s.plan with
           warn1 := if s.plan.warn1 = .pending then .skipped else s.plan.warn1
           warn2 := if s.plan.warn2 = .pending then .skipped else s.plan.warn2
           close := .taken, nextPosition := 1, positionWait := some (s.store.op.stagger * 1000), status := .running } ∧
         t.floors.table[f]? = some gl ∧ t.latched .closingStage ∧
         (closeable fl →
           (gl.mode = .closing ∨ gl.mode = .closed) ∧ gl.modeSince = s.clock.count ∧ t.latched .floorMode ∧
             s.takesNotice t ∧ (noticeKeepsStill s → s.lowersFloor f t)) ∧
         (fl.mode = .closing ∨ fl.mode = .closed → gl = fl ∧ t.shutters = s.shutters ∧ t.drive = s.drive ∧
           t.bells = s.bells)) ∧
     (∀ (f : Nat) (fl : Floor), s.plan.status = .running → s.firePresent = false → s.clock.isSet = true →
       s.stillToClose ≠ [] → s.plan.nextPosition + 1 < s.eng.floorCount → 0 < s.store.op.stagger →
       s.store.op.order[s.plan.nextPosition]? = some f → s.floors.table[f]? = some fl →
       ∃ (t : State) (gl : Floor), exec (.closeNow l) s = .next t ∧
         t.replies l 37 .accepted (be 1 2 ++ be 1 (setBits t.stillToClose)) ∧
         t.plan = { s.plan with
           nextPosition := s.plan.nextPosition + 1, positionWait := some (s.store.op.stagger * 1000) } ∧
         t.floors.table[f]? = some gl ∧ t.latched .closingStage ∧
         (closeable fl → (gl.mode = .closing ∨ gl.mode = .closed) ∧ s.takesNotice t ∧
           (noticeKeepsStill s → s.lowersFloor f t)) ∧
         (fl.mode = .closing ∨ fl.mode = .closed → gl = fl ∧ t.drive = s.drive ∧ t.shutters = s.shutters)) ∧
     (s.firePresent = true ∨ s.clock.isSet = false ∨
         (∀ f ∈ s.store.op.order, ∀ fl : Floor, s.floors.table[f]? = some fl →
           fl.mode ≠ .opened ∧ fl.mode ≠ .warned ∧ fl.mode ≠ .opening) →
       ∃ t, exec (.closeNow l) s = .next t ∧
         s.answeredOnly l 37 .refusedState (be 1 s.plan.status.code ++ be 1 (setBits s.stillToClose)) t)) ∧
  (∀ (l : LinkId) (m : Nat) (s : State), s.mayAsk l 36 →
     let time := fun (hold : Nat) => match s.plan.baseClose with
       | some c => be 4 (c + 60 * hold) ++ be 4 ((c + 60 * hold) % 86400)
       | none => List.replicate 8 (0xFF : Byte)
     (1 ≤ m → m ≤ 60 → s.plan.status = .waiting →
       let hold := min 120 (s.plan.holdTotal + m)
       ∃ t, exec (.holdClosing l m) s = .next t ∧ s.acceptedWith l 36 (time hold) [.plan] t ∧
         t.plan = { s.plan with holdTotal := hold } ∧ (hold ≠ s.plan.holdTotal → t.latched .closingStage)) ∧
     (1 ≤ m → m ≤ 60 → s.plan.status ≠ .waiting → ∃ t, exec (.holdClosing l m) s = .next t ∧
       s.answeredOnly l 36 .refusedState (time s.plan.holdTotal) t) ∧
     (m = 0 ∨ 60 < m → ∃ t, exec (.holdClosing l m) s = .next t ∧
       s.answeredOnly l 36 .refusedRange (time s.plan.holdTotal) t))

/-- SET_CLOCK (R125): the count takes the value, the second restarts, the clock-set flag is set, CLOCK is set, and
CLOCK_NOT_SET ends; on a new day, and where the flag was clear, the exception list loses the days past (R132).

SET_CLOCK, WRITE_PLAN, and WRITE_SCHEDULE and WRITE_EXCEPTION where they change the entry of the day of a record that is not carried,
rebuild the plan record and evaluate it (R133): the record of a day that has come is blank, one of the same day or a later one keeps its
markers, its holds and what it has closed, base_close comes from the exception of the day or else from the schedule (R129), and the status
follows from both. Where no stage is due in the record so rebuilt, it stands so. Other writes of the schedule and the list leave the
record alone (R127, R128). A record given before a wrap bears a mark of the model's own (notes/assumptions/25.md).

WRITE_SCHEDULE and WRITE_PLAN (R127, R130): the entry, or the four parameters together with every floor's closing_position,
take the new values; a value out of range, an order that is not a permutation of the floors, and WRITE_PLAN while RUNNING
are refused. That a refused WRITE_SCHEDULE sends its entry absent (notes/assumptions/6.md), and that a WRITE_PLAN out of range is
refused as such also while RUNNING (notes/assumptions/35.md), is the model's choice.

WRITE_EXCEPTION (R128): a list in day order stays so; the day's entry is put, replaced or removed, and the others stay; a
past day or a closing out of range is refused, which the model tests first (notes/assumptions/35.md), and so is a new day in a full
list. -/
def Obligations.PlanParameters : Prop :=
  (∀ (l : LinkId) (n : Nat) (s : State), s.mayAsk l 32 → n < 4294967296 →
     ∃ t, exec (.setClock l n) s = .next t ∧ t.clock = ⟨n, true, 0, s.nextSecond, 0⟩ ∧ t.latched .clock ∧
       t.replies l 32 .accepted (be 4 n ++ be 4 (n / 86400) ++ be 4 (n % 86400) ++
         be 1 ((n / 86400 + s.eng.epoch) % 7) ++ be 1 t.plan.status.code) ∧
       (s.clock.isSet = false → ∀ x ∈ t.faults.records, x.isOf .clockNotSet 0 = true → x.active = false) ∧
       (s.clock.isSet = false ∨ n / 86400 ≠ s.clock.count / 86400 → ∀ x ∈ t.store.op.exceptions, n / 86400 ≤ x.day) ∧
       t.planRebuilt s.plan ∧ s.linksTakeRequest l t ∧ t.pending = s.pending) ∧
  (∀ (l : LinkId) (s : State), s.mayAsk l 33 →
     (∀ day closing, day ≤ 6 → closing ≤ 86399 ∨ closing = 0xFFFFFFFF →
       let c := if closing = 0xFFFFFFFF then none else some closing
       ∃ t, exec (.writeSchedule l day closing) s = .next t ∧
         t.replies l 33 .accepted (be 4 closing ++ be 1 t.plan.status.code) ∧ t.clock = s.clock ∧
         t.store = { s.store with op := { s.store.op with schedule := s.store.op.schedule.set day c } } ∧
         ((s.plan.day + s.eng.epoch) % 7 = day → ¬ s.carries s.plan → t.planRebuilt s.plan) ∧
         ((s.plan.day + s.eng.epoch) % 7 ≠ day ∨ s.carries s.plan →
           s.acceptedWith l 33 (be 4 closing ++ be 1 s.plan.status.code) [.store] t)) ∧
     (∀ day closing, 6 < day ∨ (86399 < closing ∧ closing ≠ 0xFFFFFFFF) →
       ∃ t, exec (.writeSchedule l day closing) s = .next t ∧
         s.answeredOnly l 33 .refusedRange ([0xFF, 0xFF, 0xFF, 0xFF] ++ be 1 s.plan.status.code) t) ∧
     (∀ w1 w2 g (order : List Nat), 1 ≤ order.length → order.length ≤ 8 →
       let ok := w1 ≤ 60 ∧ w2 ≤ w1 ∧ g ≤ 600 ∧ order.Perm (List.range s.eng.floorCount)
       (ok → s.plan.status ≠ .running → ∃ t, exec (.writePlan l w1 w2 g order) s = .next t ∧
         t.replies l 35 .accepted (be 1 t.plan.status.code) ∧ t.clock = s.clock ∧
         t.store = { s.store with op := { s.store.op with w1 := w1, w2 := w2, stagger := g, order := order } } ∧
         t.planRebuilt s.plan ∧
         ∀ (f : Nat) (fl : Floor), t.floors.table[f]? = some fl → fl.closingPosition = order.idxOf f) ∧
       (ok → s.plan.status = .running → ∃ t, exec (.writePlan l w1 w2 g order) s = .next t ∧
         s.answeredOnly l 35 .refusedState (be 1 s.plan.status.code) t) ∧
       (¬ ok → ∃ t, exec (.writePlan l w1 w2 g order) s = .next t ∧
         s.answeredOnly l 35 .refusedRange (be 1 s.plan.status.code) t))) ∧
  (∀ (l : LinkId) (day closing : Nat) (s : State), s.mayAsk l 34 →
     s.store.op.exceptions.Pairwise (fun a b => a.day < b.day) →
     let xs := s.store.op.exceptions
     let today := s.clock.count / 86400
     let writes := fun (mine : PlanException → Prop) => ∃ t, exec (.writeException l day closing) s = .next t ∧
       (t.link l).reply.map (·.status) = some .accepted ∧ t.clock = s.clock ∧
       t.store = { s.store with op := { s.store.op with exceptions := t.store.op.exceptions } } ∧
       t.store.op.exceptions.Pairwise (fun a b => a.day < b.day) ∧
       (day = s.plan.day → ¬ s.carries s.plan → t.store.op.exceptions ≠ xs → t.planRebuilt s.plan) ∧
       (day ≠ s.plan.day ∨ s.carries s.plan ∨ t.store.op.exceptions = xs → t.plan = s.plan) ∧
       ∀ y, y ∈ t.store.op.exceptions ↔ mine y ∨ (y ∈ xs ∧ y.day ≠ day)
     (today ≤ day → closing = 0xFFFFFFFE → writes fun _ => False) ∧
     (today ≤ day → closing ≤ 86399 → (∃ x ∈ xs, x.day = day) ∨ xs.length < 16 → writes fun y => y = ⟨day, some closing⟩) ∧
     (today ≤ day → closing = 0xFFFFFFFF → (∃ x ∈ xs, x.day = day) ∨ xs.length < 16 → writes fun y => y = ⟨day, none⟩) ∧
     (today ≤ day → closing ≤ 86399 ∨ closing = 0xFFFFFFFF → (∀ x ∈ xs, x.day ≠ day) → 16 ≤ xs.length →
       ∃ t, exec (.writeException l day closing) s = .next t ∧
         s.answeredOnly l 34 .refusedFull (be 1 xs.length ++ be 1 s.plan.status.code) t) ∧
     (day < today ∨ (86399 < closing ∧ closing ≠ 0xFFFFFFFE ∧ closing ≠ 0xFFFFFFFF) →
       ∃ t, exec (.writeException l day closing) s = .next t ∧
         s.answeredOnly l 34 .refusedRange (be 1 xs.length ++ be 1 s.plan.status.code) t))

/-! ### The announcements -/

/-- WRITE_SCRIPT (R145): on air the copy becomes the pending one and the current one stays; otherwise it becomes current and
any pending one goes; a slot, a phrase or a mask out of range is refused. That a refusal sends the slot, absent above 7, and absent
for the copy that was not made is the model's choice (notes/assumptions/6.md).

QUEUE_ANNOUNCEMENT (R148): the tests in their order; an accepted entry of class OFFICE joins at the end, and its position is
told.

CANCEL_ANNOUNCEMENT (R150, R152). -/
def Obligations.AnnouncementRequests : Prop :=
  (∀ (l : LinkId) (slot mask : Nat) (phrases : List Nat) (s : State), s.mayAsk l 39 → s.sized →
     1 ≤ phrases.length → phrases.length ≤ 16 →
     let c : Copy := ⟨phrases, mask⟩
     let ok := slot ≤ 7 ∧ (∀ p ∈ phrases, p ≤ 1023) ∧ 1 ≤ mask ∧ mask ≤ 255
     (ok → s.onAir slot = true → ∃ t, exec (.writeScript l slot mask phrases) s = .next t ∧
       s.acceptedWith l 39 (be 1 slot ++ [1] ++ be 1 phrases.length) [.announce] t ∧
       t.announce = { s.announce with pendingCopies := s.announce.pendingCopies.set slot (some c) }) ∧
     (ok → s.onAir slot = false → ∃ t, exec (.writeScript l slot mask phrases) s = .next t ∧
       s.acceptedWith l 39 (be 1 slot ++ [0] ++ be 1 phrases.length) [.announce, .store, .loop] t ∧
       t.copy? slot = some c ∧ t.announce.pendingCopies[slot]? = some none ∧ ∀ k, k ≠ slot → t.copy? k = s.copy? k) ∧
     (¬ ok → ∃ t, exec (.writeScript l slot mask phrases) s = .next t ∧
       s.answeredOnly l 39 .refusedRange ((if slot ≤ 7 then be 1 slot else [0xFF]) ++ [0xFF, 0xFF]) t)) ∧
  (∀ (l : LinkId) (slot : Nat) (s : State), s.mayAsk l 40 →
     let q := s.announce.queue
     let refused := fun st => ∃ t, exec (.queueAnnouncement l slot) s = .next t ∧ s.answeredOnly l 40 st [0xFF] t
     (6 < slot → refused .refusedRange) ∧
     (slot ≤ 6 → 8 ≤ q.length → refused .refusedFull) ∧
     (slot ≤ 6 → q.length < 8 → s.queued slot = true ∨ s.onAir slot = true → refused .refusedDuplicate) ∧
     (slot ≤ 6 → q.length < 8 → s.queued slot = false → s.onAir slot = false → s.copy? slot = none →
       refused .refusedState) ∧
     (slot ≤ 6 → q.length < 8 → s.queued slot = false → s.onAir slot = false → s.copy? slot ≠ none →
       ∃ t, exec (.queueAnnouncement l slot) s = .next t ∧ s.acceptedWith l 40 (be 1 q.length) [.announce, .loop] t ∧
         (s.announce.playout ≠ none → t.announce = { s.announce with
           queue := q ++ [⟨slot, .office, s.clock.count, none⟩] }) ∧
         (s.announce.playout = none → s.announce.port.state = .idle → q = [] → s.firePresent = false →
           t.announce.queue = [] ∧ ∃ p, t.announce.playout = some p ∧ p.slot = slot ∧ p.phase = .lead ∧ p.timer = 500))) ∧
  (∀ (l : LinkId) (slot : Nat) (s : State), s.mayAsk l 41 →
     (7 < slot → ∃ t, exec (.cancelAnnouncement l slot) s = .next t ∧ s.answeredOnly l 41 .refusedRange [] t) ∧
     (∀ q, slot ≤ 7 → s.announce.queue.find? (fun q => q.slot == slot) = some q → q.cls ≠ .evac →
       ∃ t, exec (.cancelAnnouncement l slot) s = .next t ∧ s.acceptedWith l 41 [] [.announce] t ∧
         t.announce = { s.announce with queue := s.announce.queue.filter fun x => x.slot != slot }) ∧
     (∀ q, slot ≤ 7 → s.announce.queue.find? (fun q => q.slot == slot) = some q → q.cls = .evac →
       ∃ t, exec (.cancelAnnouncement l slot) s = .next t ∧ s.answeredOnly l 41 .refusedState [] t) ∧
     (∀ p, slot ≤ 7 → s.queued slot = false → s.announce.playout = some p → p.slot = slot → p.cls ≠ .evac →
       p.cancelled = false →
       (p.phase = .phrase → ∃ t, exec (.cancelAnnouncement l slot) s = .next t ∧ s.acceptedWith l 41 [] [.announce] t ∧
         t.announce = { s.announce with playout := some { p with cancelled := true } }) ∧
       (p.phase = .lead ∨ p.phase = .gap → ∃ t, exec (.cancelAnnouncement l slot) s = .next t ∧
         s.acceptedWith l 41 [] [.announce, .store] t ∧ t.announce.queue = s.announce.queue ∧
         t.announce.playout = some { p with
           cancelled := true, phase := .tail, outcome := some .cancelled, returned := false, timer := 500 })) ∧
     (slot ≤ 7 → s.queued slot = false → s.onAir slot = false →
       ∃ t, exec (.cancelAnnouncement l slot) s = .next t ∧ s.answeredOnly l 41 .refusedState [] t))

/-- What a zone alarm that brings a floor into FIRE does to the bells, the plan and the announcements.

No line holds or sounds a CALL or a CLOSING after it, and on every NORMAL line the fire ring begins, after the tail where a stroke
of a pattern was on; a round in progress is discarded and falls due again (R113).

A plan record that is RUNNING, or WAITING where the fire begins, is ABANDONED, and no CLOSING entry is left in the playout queue; one that
is WAITING where fire was present already was built after the fire began and stays, with the CLOSING entries; and any other record stays
(R140).

A CLOSING or OFFICE playout on air leaves the air at once with outcome ABORTED, or CANCELLED where it was cancelled, an ABORT cuts
its phrase, and its OFFICE entry is back in the queue unless it was cancelled (R155); that the entry of a CLOSING playout counts as
returned although the plan is abandoned in the same step rests on the model's order, the sequencer before the planner
(notes/assumptions/8.md). With a copy in slot 7 that is neither on air
nor queued, the evacuation entry stands at the head of the queue, or begins at once where nothing plays (R154, R151). -/
def Obligations.FireOnTheBuilding : Prop :=
  ∀ (l : LinkId) (z : Nat) (x : Zone) (fl : Floor) (s : State), s.mayAsk l 16 → z ≤ 15 →
    s.floors.zones[z]? = some x → x.alarm = false → s.floors.table[x.floor]? = some fl → fl.mode ≠ .fire →
    ∃ t, exec (.zoneAlarm l z) s = .next t ∧
      (∀ (n : Nat) (k : Line), s.line? n = some k → ∃ y, t.line? n = some y ∧
        (∀ q ∈ y.queue, q.cls ≠ .call ∧ q.cls ≠ .closing) ∧ (∀ q, y.current? = some q → q.cls ≠ .call ∧ q.cls ≠ .closing) ∧
        (∀ q ∈ k.queue, q.cls = .trouble → q ∈ y.queue) ∧ y.faulted = k.faulted ∧
        (k.faulted = false →
          (k.activity = .idle → y.activity = .fire 0 ∧ y.drive = true ∧ y.strokeLeft = 80) ∧
          (∀ c, k.activity = .pattern c → k.drive = false → y.activity = .fire 0 ∧ y.drive = true ∧ y.strokeLeft = 80) ∧
          (∀ c, k.activity = .pattern c → k.drive = true → y.activity = .tail ∧ y.drive = true ∧ y.strokeLeft = k.strokeLeft) ∧
          (∀ m, k.activity = .fire m → y.activity = .fire m ∧ y.drive = k.drive) ∧
          (k.activity = .tail → y.activity = .tail ∧ y.drive = k.drive))) ∧
      t.bells.calls = s.bells.calls.map (fun c =>
        if c.state = .pending ∧ c.roundLines ≠ none then { c with roundLines := none, nextDue := some 0 } else c) ∧
      (s.plan.status = .waiting ∧ s.firePresent = false ∨ s.plan.status = .running →
        (∀ q ∈ t.announce.queue, q.cls ≠ .closing) ∧ t.latched .closingStage ∧
        (s.planDayPast = false → t.plan = { s.plan with status := .abandoned, positionWait := none })) ∧
      (s.plan.status = .waiting → s.firePresent = true →
        t.plan = s.plan ∧ ∀ q ∈ s.announce.queue, q.cls = .closing → q ∈ t.announce.queue) ∧
      (s.plan.status ≠ .waiting → s.plan.status ≠ .running → t.plan = s.plan) ∧
      (∀ p : Playout, s.announce.playout = some p → p.phase ≠ .tail → p.cls ≠ .evac →
        let back := !p.cancelled && !(p.cls == .closing && s.plan.status == .abandoned)
        t.announce.playout = some { p with
          phase := .tail, outcome := some (if p.cancelled then .cancelled else .aborted), returned := back, timer := 500 } ∧
        (p.cls = .office → p.cancelled = false → ⟨p.slot, .office, p.queuedAt, none⟩ ∈ t.announce.queue) ∧
        (p.phase = .phrase → s.announce.port.state = .playing →
          t.announce.port = { s.announce.port with
            phraseTimer := none, abortWait := some 100, outbox := s.announce.port.outbox ++ [.abort] }) ∧
        (p.phase = .phrase → s.announce.port.state = .starting →
          t.announce.port = { s.announce.port with
            state := .idle, startTimer := none, outbox := s.announce.port.outbox ++ [.abort] }) ∧
        (p.phase = .lead ∨ p.phase = .gap → t.announce.port = s.announce.port)) ∧
      (∀ p : Playout, s.announce.playout = some p → p.phase = .tail ∨ p.cls = .evac → t.announce.playout = some p) ∧
      (s.copy? 7 ≠ none → s.queued 7 = false → (∀ p, s.announce.playout = some p → p.slot ≠ 7) →
        let entry : QueueEntry := ⟨7, .evac, s.clock.count, none⟩
        (s.announce.playout ≠ none ∨ s.announce.port.state ≠ .idle → t.announce.queue.head? = some entry) ∧
        (s.announce.playout = none → s.announce.port.state = .idle → ∃ p, t.announce.playout = some p ∧ p.slot = 7 ∧
          p.cls = .evac ∧ p.phase = .lead ∧ p.timer = 500 ∧ p.floors = List.range s.eng.floorCount)) ∧
      (s.announce.evacSlot → s.onAir 7 = true ∨ s.queued 7 = true → s.announce.playout.any (fun p => p.cls == .office || p.cls == .closing) = false →
        ∀ q ∈ t.announce.queue, q.cls = .evac → q ∈ s.announce.queue)

/-- A playout's own times (R152, R153, R154): at the end of the lead and of a gap the next phrase is sent, at the end of the
tail the relays open and the playout is recorded, and the evacuation entry plays when its gap has passed. The tail of an EVAC playout that
ends while fire is present leaves the next EVAC entry at the head of the queue with a gap of 5,000 ms; where no entry is made and the
port is IDLE, the tail's end begins the first entry of the queue that may play (R151). That a relay point of the
playout is off after the tail also where an apply has meanwhile given the point another purpose is the model's choice
(notes/assumptions/32.md). -/
def Obligations.PlayoutProceeds : Prop :=
  ∀ s : State,
    (∀ (p : Playout) (c : Copy), s.announce.playout = some p → p.phase = .lead ∨ p.phase = .gap → s.announce.port.state = .idle →
      s.copy? p.slot = some c →
      ∃ t, exec (if p.phase = .lead then .playoutLeadEnd else .playoutGapEnd) s = .next t ∧ s.keepsAllBut [.announce] t ∧
        t.announce = { s.announce with
          playout := some { p with phase := .phrase, phrasesSent := p.phrasesSent + 1, timer := 0 }
          port := { s.announce.port with
            state := .starting, startTimer := some 100
            outbox := s.announce.port.outbox ++ [.play (c.phrases.getD p.phraseIndex 0)] } }) ∧
    (∀ p : Playout, s.announce.playout = some p → p.phase = .tail → s.announce.queue = [] → s.firePresent = false →
      ∃ t, exec .playoutTailEnd s = .next t ∧ s.actsOn [.announce, .loop] t ∧ t.announce.playout = none ∧
        t.announce.last = some
          ⟨p.slot, p.cls, p.startedAt, s.clock.count, p.phrasesSent, p.missing, p.outcome, p.returned⟩ ∧
        t.latched .announcementDone ∧ ∀ r ∈ p.relays, t.outPoint r = false) ∧
    (∀ p : Playout, s.announce.playout = some p → p.phase = .tail → p.cls = .evac → s.firePresent = true → s.copy? 7 ≠ none →
      (∀ q ∈ s.announce.queue, q.slot ≠ 7 ∧ q.cls ≠ .evac) →
      ∃ t, exec .playoutTailEnd s = .next t ∧ s.actsOn [.announce, .loop] t ∧ t.announce.playout = none ∧
        t.announce.queue = ⟨7, .evac, s.clock.count, some 5000⟩ :: s.announce.queue ∧
        t.announce.last = some
          ⟨p.slot, p.cls, p.startedAt, s.clock.count, p.phrasesSent, p.missing, p.outcome, p.returned⟩ ∧
        t.latched .announcementDone ∧ ∀ r ∈ p.relays, t.outPoint r = false) ∧
    (∀ (p : Playout) (q : QueueEntry) (rest : List QueueEntry), s.announce.playout = some p → p.phase = .tail →
      s.announce.queue = q :: rest → s.announce.port.state = .idle → (q.cls = .evac → q.gap = none) →
      (q.cls ≠ .evac → s.firePresent = false) → (s.firePresent = true → s.queued 7 = true) →
      ∃ (t : State) (x : Playout), exec .playoutTailEnd s = .next t ∧ s.actsOn [.announce, .loop] t ∧ t.announce.queue = rest ∧
        t.announce.playout = some x ∧ x.slot = q.slot ∧ x.cls = q.cls ∧ x.queuedAt = q.queuedAt ∧ x.phase = .lead ∧ x.timer = 500 ∧
        t.announce.last = some
          ⟨p.slot, p.cls, p.startedAt, s.clock.count, p.phrasesSent, p.missing, p.outcome, p.returned⟩ ∧
        t.latched .announcementDone) ∧
    (∀ q rest n, s.announce.queue = q :: rest → q.cls = .evac → q.gap = some n → s.announce.playout = none →
      s.announce.port.state = .idle →
      ∃ (t : State) (p : Playout), exec .evacGapExpiry s = .next t ∧ s.keepsAllBut [.announce, .loop] t ∧
        t.announce.playout = some p ∧ p.slot = q.slot ∧ p.cls = .evac ∧ p.phase = .lead ∧ p.timer = 500 ∧
        p.floors = List.range s.eng.floorCount) ∧
    (s.announce.playout = none → exec .playoutLeadEnd s = .next s ∧ exec .playoutGapEnd s = .next s ∧
      exec .playoutTailEnd s = .next s)

/-- The end of an exchange (R157): the word leaves the port, and a status word whose low bits are 10 counts a phrase as missing, in
the port and in the record that still stands, unless it answers a phrase cut short: the word after an ABORT, or the ABORT itself
where no result was outstanding (notes/assumptions/16.md).

The READY line (R156, R152): a start seen begins the phrase time; the end of a phrase leads to the next after a gap of 200
ms, or to the tail with STATUS sent; READY high from IDLE faults the port.

The port's faults and its recovery (R156, R158, R160): a timer that runs out faults the port with its cause and raises
PLAYER; READY low for its time returns it to IDLE and ends a fault that was raised; the check after start-up raises a fault
still standing. A playout on air when the port faults leaves the air with outcome FAULTED, and its entry returns to the head of
its class unless it was cancelled or is a CLOSING entry of an ABANDONED plan (R158). That a cancelled playout ends FAULTED too
(notes/assumptions/15.md), and that the entry of an EVAC playout returns although the fire may be over (notes/assumptions/32.md), is
the model's choice. -/
def Obligations.PlayerPort : Prop :=
  (∀ (w : Word) (s : State),
     (s.announce.port.outbox = [] → exec (.playerExchangeEnd w) s = .next s) ∧
     (∀ (x : PlayerWord) (rest : List PlayerWord), s.announce.port.outbox = x :: rest → ∃ t, exec (.playerExchangeEnd w) s = .next t ∧
       s.keepsAllBut [.announce] t ∧ t.announce.port.outbox = rest ∧ t.announce.port.state = s.announce.port.state ∧
       let due := s.announce.port.resultDue
       let missing := w.getLsbD 1 && !w.getLsbD 0
       let cut := due = .cut ∨ (due = .nothing ∧ x = .abort)
       (missing = true → ¬ cut → t.announce.port.missingCount = min 65535 (s.announce.port.missingCount + 1)) ∧
       (missing = false ∨ cut → t.announce.port.missingCount = s.announce.port.missingCount) ∧
       (∀ p : Playout, s.announce.playout = some p → due = .standing →
         t.announce.playout = some { p with missing := p.missing + if missing then 1 else 0 }) ∧
       (due ≠ .standing → t.announce.playout = s.announce.playout) ∧
       t.announce.port.resultDue = (if x = .abort then .cut else .nothing))) ∧
  (∀ s : State,
     (exec (.playerReadyChange s.announce.port.readyHigh) s = .next s) ∧
     (s.announce.port.readyHigh = false → s.announce.port.state = .starting →
       ∃ t, exec (.playerReadyChange true) s = .next t ∧ s.keepsAllBut [.announce] t ∧
         t.announce = { s.announce with port := { s.announce.port with
           readyHigh := true, state := .playing, startTimer := none, phraseTimer := some 60000 } }) ∧
     (s.announce.port.readyHigh = false → s.announce.port.state = .idle →
       ∃ t, exec (.playerReadyChange true) s = .next t ∧ t.announce.port.state = .faulted ∧
         t.announce.port.faultCause = some .readyUnexpected ∧ t.announce.port.readyHigh = true ∧ t.latched .player ∧
         (s.faults.records.length < 32 → t.faults.active .player 0)) ∧
     (∀ (p : Playout) (c : Copy), s.announce.port.readyHigh = true → s.announce.port.state = .playing → s.announce.port.abortWait = none →
       s.announce.playout = some p → p.phase = .phrase → p.cancelled = false → s.copy? p.slot = some c →
       (p.phraseIndex + 1 < c.phrases.length → ∃ t, exec (.playerReadyChange false) s = .next t ∧
         s.keepsAllBut [.announce] t ∧ t.announce.port.state = .idle ∧
         t.announce.playout = some { p with phraseIndex := p.phraseIndex + 1, phase := .gap, timer := 200 }) ∧
       (c.phrases.length ≤ p.phraseIndex + 1 → ∃ t, exec (.playerReadyChange false) s = .next t ∧
         t.announce.port.state = .idle ∧ t.announce.port.outbox = s.announce.port.outbox ++ [.status] ∧
         t.announce.playout = some { p with
           phase := .tail, outcome := some .complete, returned := false, timer := 500 })) ∧
     (∀ n : Nat, s.announce.port.readyHigh = true → s.announce.port.state = .playing → s.announce.port.abortWait = some n →
       s.announce.playout ≠ none → ∃ t, exec (.playerReadyChange false) s = .next t ∧ s.keepsAllBut [.announce] t ∧
       t.announce = { s.announce with port := { s.announce.port with
         readyHigh := false, state := .idle, phraseTimer := none, abortWait := none } })) ∧
  (∀ s : State,
     let p := s.announce.port
     let leaves := fun (t : State) =>
       (s.airborne = none → t.announce.playout = s.announce.playout ∧ t.announce.queue = s.announce.queue) ∧
       ∀ o : Playout, s.announce.playout = some o → o.phase ≠ .tail →
         let back := !o.cancelled && !(o.cls == .closing && s.plan.status == .abandoned)
         t.announce.playout = some { o with phase := .tail, outcome := some .faulted, returned := back, timer := 500 } ∧
         (back = false → t.announce.queue = s.announce.queue) ∧
         (back = true →
           let higher := s.announce.queue.takeWhile fun q => q.cls.code < o.cls.code
           t.announce.queue = higher ++ ⟨o.slot, o.cls, o.queuedAt, none⟩ :: s.announce.queue.drop higher.length)
     let faults := fun (c : Instr) (cause : PortCause) (out : List PlayerWord) (due : ResultDue) => ∃ t, exec c s = .next t ∧
       t.announce.port = { p with
         state := .faulted, startTimer := none, phraseTimer := none, abortWait := none, readyLowTime := 0
         faultCause := some cause, outbox := out, resultDue := due } ∧
       t.latched .player ∧ (s.faults.records.length < 32 → t.faults.active .player 0) ∧ leaves t
     (p.state = .starting → faults .startTimerExpiry .startNotSeen (p.outbox ++ [.abort]) .standing) ∧
     (p.state = .playing → p.abortWait = none →
       faults .phraseTimerExpiry .phraseOverrun (p.outbox ++ [.abort]) p.resultDue) ∧
     (∀ n : Nat, p.state = .playing → p.abortWait = some n → faults .abortWaitExpiry .abortNotSeen p.outbox p.resultDue) ∧
     (p.state = .faulted → p.readyHigh = false → ∃ t, exec .playerRecovery s = .next t ∧
       (s.announce.queue = [] → t.announce.port = { p with state := .idle, faultCause := none, readyLowTime := 0 }) ∧
       (p.faultCause ≠ some .startUp ∨ p.startUpRaised = true → t.latched .player ∧
         ∀ x ∈ t.faults.records, x.isOf .player 0 = true → x.active = false) ∧
       (p.faultCause = some .startUp → p.startUpRaised = false → t.faults = s.faults)) ∧
     (∀ n : Nat, p.startUpLeft = some n → p.state = .faulted → p.faultCause = some .startUp →
       ∃ t, exec .playerStartUpCheck s = .next t ∧ t.announce.port = { p with startUpLeft := none, startUpRaised := true } ∧
         (s.faults.records.length < 32 → t.faults.active .player 0)) ∧
     (p.state = .idle → exec .startTimerExpiry s = .next s ∧ exec .phraseTimerExpiry s = .next s ∧
       exec .abortWaitExpiry s = .next s ∧ exec .playerRecovery s = .next s))

/-! ### The field loop and the analog monitor -/

/-- A scan begins with the output image as it stands and the check word of its turn (R163), and only in SUPERVISING with none
running.

A good scan (R163, R165, R166): the check word alternates, the scan is counted, the bad run ends, and each point of the
modules takes its new value in the debounced image after three samples in a row; a loop that was FAULTED loads the samples
directly, is GOOD, and ends LOOP. That a point of no module in the scan keeps its last sample and is debounced on from it is the
model's choice (notes/assumptions/34.md).

A bad scan (R163, R164): it is counted and changes no input, and the third in a row faults the loop, raises LOOP, brakes a
driven chain to HALT and leaves no shutter known. -/
def Obligations.Scans : Prop :=
  (∀ s : State,
     (s.store.state = .supervising → s.loop.scan = none → ∃ t, exec .scanStart s = .next t ∧
       s.keepsAllBut [.loop, .drive] t ∧ t.loop = { s.loop with
         scan := some ⟨s.loop.out.take (8 * s.eng.modules), s.loop.nextCheck, s.eng.modules⟩, scanLeft := 10 } ∧
       t.drive = { s.drive with inch := s.drive.inch.map fun i => { i with scanBegun := true } }) ∧
     (s.store.state ≠ .supervising ∨ s.loop.scan ≠ none → exec .scanStart s = .next s) ∧
     (s.loop.scan = none → ∀ w bs, exec (.scanEnd w bs) s = .next s)) ∧
  (∀ (sc : Scan) (bytes : List Byte) (s : State), s.loop.scan = some sc → s.sized →
     let sample := fun p => if p < 8 * sc.modules then (bytes.getD (p / 8) 0).getLsbD (p % 8) else s.loop.samples.getD p false
     ∃ t, exec (.scanEnd sc.word bytes) s = .next t ∧ t.loop.scan = none ∧ t.loop.good = true ∧ t.loop.badRun = 0 ∧
       t.loop.scanCount = (s.loop.scanCount + 1) % 65536 ∧ t.loop.badScans = s.loop.badScans ∧
       t.loop.nextCheck = (if s.loop.nextCheck = 0xA5C3 then 0x5A3C else 0xA5C3) ∧ t.clock = s.clock ∧
       (∀ p, p < 192 → t.loop.samples.getD p false = sample p) ∧
       (s.loop.good = true → ∀ p, p < 192 →
         (sample p = s.loop.debounced.getD p false →
           t.loop.debounced.getD p false = s.loop.debounced.getD p false ∧ t.loop.runs.getD p 0 = 0) ∧
         (sample p ≠ s.loop.debounced.getD p false → s.loop.runs.getD p 0 < 2 →
           t.loop.debounced.getD p false = s.loop.debounced.getD p false ∧
             t.loop.runs.getD p 0 = s.loop.runs.getD p 0 + 1) ∧
         (sample p ≠ s.loop.debounced.getD p false → 2 ≤ s.loop.runs.getD p 0 →
           t.loop.debounced.getD p false = sample p ∧ t.loop.runs.getD p 0 = 0)) ∧
       (s.loop.good = false → t.loop.debounced = t.loop.samples ∧ t.loop.runs = List.replicate 192 0 ∧
         ∀ x ∈ t.faults.records, x.isOf .loop 0 = true → x.active = false)) ∧
  (∀ (sc : Scan) (w : Word) (bytes : List Byte) (s : State), s.loop.scan = some sc → w ≠ sc.word →
     ∃ t, exec (.scanEnd w bytes) s = .next t ∧ t.loop.scan = none ∧ t.loop.badRun = min 3 (s.loop.badRun + 1) ∧
       t.loop.badScans = min 65535 (s.loop.badScans + 1) ∧ t.loop.scanCount = (s.loop.scanCount + 1) % 65536 ∧
       t.loop.debounced = s.loop.debounced ∧ t.loop.samples = s.loop.samples ∧
       (s.loop.badRun ≠ 2 → s.keepsAllBut [.loop] t ∧ t.loop.good = s.loop.good ∧ t.loop.runs = s.loop.runs) ∧
       (s.loop.badRun = 2 → t.loop.good = false ∧
         (s.faults.records.length < 32 → t.faults.active .loop 0) ∧
         (s.loop.good = true → t.loop.runs = List.replicate 192 0 ∧ (∀ sh ∈ t.shutters.table, sh.state = .unknown) ∧
           (s.drive.driven = true → t.drive.stopCause = some (.fault .loop) ∧ t.drive.released = false ∧ t.drive.vRef = 0 ∧
             (t.drive.state = .brake ∧ t.drive.brakeExit = some .halt ∨ t.drive.state = .halt)) ∧
           (s.drive.state = .warning → t.drive.state = .off))))

/-- The samples (R170, R172, R173): every channel's reading is its sample saturated to 0 to 1023; a channel that is not
evaluated has nothing more; channel 0 rising to HIGH brakes a driven chain with OVERLOAD, and channel 5 falling to LOW
raises SUPPLY_LOW. A sample above or below the window counts up to K, where the window state changes and the counts end; one
inside it by the hysteresis returns the window INSIDE, and one inside it otherwise ends the counts and no more. A slot channel
that becomes HIGH jams the shutter of that slot (R78), and channel 5 leaving LOW ends SUPPLY_LOW and has the arbiter look again
(R79, R82). The fall of channel 5 to LOW stops every RAISING shutter with its hold kept: it gives up its slot and joins the waiting list at
the tail for UP (R79); several join in any order, which the model's choice fixes (notes/assumptions/30.md).

The end of a blanking (R171): the channel is evaluated; a channel that is not blanked is left as it is. -/
def Obligations.AnalogMonitor : Prop :=
  (∀ (xs : List Int) (s : State), xs.length = 6 → s.sized →
     ∃ t, exec (.analogSample xs) s = .next t ∧
       (∀ c : Nat, c < 6 → ((t.analog[c]?).map (·.reading)) = (xs[c]?).map fun v => min 1023 (max 0 v).toNat) ∧
       ((∀ c ∈ s.analog, c.evaluated = false) → s.keepsAllBut [.analog] t ∧
         ∀ (c : Nat) (ch : Chan) (v : Int), s.analog[c]? = some ch → xs[c]? = some v →
           t.analog[c]? = some { ch with reading := min 1023 (max 0 v).toNat }) ∧
       (∀ (ch : Chan) (v : Int), s.analog[0]? = some ch → xs[0]? = some v → ch.evaluated = true → ch.window ≠ .high →
         ((s.chanCfg 0).high : Int) < v → (s.chanCfg 0).high < 1023 → (s.chanCfg 0).low ≤ (s.chanCfg 0).high →
         (s.chanCfg 0).k ≤ ch.above + 1 → s.drive.driven = true →
         t.drive.stopCause = some (.fault .overload) ∧ t.drive.released = false ∧ t.drive.vRef = 0) ∧
       (∀ (ch : Chan) (v : Int), (∀ (c : Nat), c < 5 → ∀ x : Chan, s.analog[c]? = some x → x.evaluated = false) → s.analog[5]? = some ch →
         xs[5]? = some v → ch.evaluated = true → ch.window = .inside →
         v < ((s.chanCfg 5).low : Int) → 0 < (s.chanCfg 5).low →
         (s.chanCfg 5).low ≤ (s.chanCfg 5).high →
         (s.chanCfg 5).k ≤ ch.below + 1 →
         t.supplyLow = true ∧ (s.faults.records.length < 32 → t.faults.active .supplyLow 0) ∧
           (s.drive.state = .warning → t.drive.state = .off) ∧
           (s.shutters.listsAgree → s.stopsTravel (fun i => match s.shutterState? i with
             | some (.raising _) => true
             | _ => false) t)) ∧
       (∀ (c : Nat) (ch : Chan) (v : Int), (∀ (d : Nat), d ≠ c → ∀ x : Chan, s.analog[d]? = some x → x.evaluated = false) →
         s.analog[c]? = some ch → xs[c]? = some v → ch.evaluated = true →
         let g := s.chanCfg c
         let w := min 1023 (max 0 v).toNat
         let counts := fun (a b : Nat) => t.analog[c]? = some { ch with reading := w, above := a, below := b }
         let enters := fun (o : Window) => t.analog[c]? = some { ch with reading := w, window := o, above := 0, below := 0 }
         g.low ≤ g.high →
         (g.high < w → ch.window = .high ∨ ch.above + 1 < g.k → counts (min g.k (ch.above + 1)) 0) ∧
         (g.high < w → ch.window ≠ .high → g.k ≤ ch.above + 1 → c = 5 → enters .high) ∧
         (w < g.low → ch.window = .low ∨ ch.below + 1 < g.k → counts 0 (min g.k (ch.below + 1))) ∧
         (w < g.low → ch.window ≠ .low → g.k ≤ ch.below + 1 → enters .low) ∧
         (ch.window ≠ .inside → g.low + g.h ≤ w → w + g.h ≤ g.high → enters .inside) ∧
         (g.low ≤ w → w ≤ g.high → ch.window = .inside ∨ w < g.low + g.h ∨ g.high < w + g.h → counts 0 0) ∧
         (∀ (x : Grant) (sh : Shutter), 1 ≤ c → c ≤ 4 → s.shutters.slots[c - 1]? = some (some x) →
           s.shutter? x.shutter = some sh → sh.state.powered = true → g.high < w → ch.window ≠ .high → g.k ≤ ch.above + 1 →
           ∃ y, t.shutter? x.shutter = some y ∧ y.state = .jammed ∧ y.hold = sh.hold ∧ t.latched .shutterFault ∧
             (s.faults.records.length < 32 → t.faults.active .shutterJam x.shutter)) ∧
         (c = 5 → ch.window = .low → (g.low + g.h ≤ w ∧ w + g.h ≤ g.high) ∨ (g.high < w ∧ g.k ≤ ch.above + 1) →
           t.supplyLow = false ∧ (∀ x ∈ t.faults.records, x.isOf .supplyLow 0 = true → x.active = false) ∧
           (s.shutters.listsAgree → s.loop.good = true →
             (∀ x ∈ t.shutters.slots, x ≠ none) ∨ ∀ i ∈ t.shutters.waitList, t.eligible i = false)))) ∧
  (∀ (c : Nat) (ch : Chan) (s : State), s.analog[c]? = some ch → ∃ t, exec (.analogBlankingEnd c) s = .next t ∧
     s.keepsAllBut [.analog] t ∧ t.analog.length = s.analog.length ∧ (∀ d : Nat, d ≠ c → t.analog[d]? = s.analog[d]?) ∧
     (ch.blanking ≠ none → t.analog[c]? = some { ch with evaluated := true, blanking := none }) ∧
     (ch.blanking = none → t = s))

/-! ### The configuration -/

/-- The edit session (R195 to R197): CONFIG_BEGIN makes the shadow of the applied part where the part is quiet, CONFIG_WRITE
puts bytes into it within a section, CONFIG_ABORT discards it. The reply of CONFIG_BEGIN is config_state, load_result, load_failure's
section and field or absent, whether a save runs and last_save, one byte each (R195, 11.4). The model's choices: a flag sent as 1 for set
(notes/assumptions/5.md), load_result before any LOADING has ended (4.md), the absent count of a refused CONFIG_WRITE (6.md), and that it
asks for the session before the range (35.md).

CONFIG_END (R198): with the session open and the part quiet, a shadow that fails a check is refused with the first failing section and
field, whose numbers are the model's (10.md), and stays open; a good one becomes the part in force and closes the session, with every
floor, zone and line built anew: from SUPERVISING with the drive OFF at its start-up values (its own counts as 27.md has them,
since_release 0 until the next release, 38.md), the chain unreferenced at 0, and every floor CLOSED, or back in CLOSING where a shutter of
it was found open (R22, R67, R96); from UNCONFIGURED every floor CLOSED; and every floor in FIRE where general alarm is active.
From SUPERVISING the playout queue is emptied, and a playout on air ends ABORTED and not returned, a phrase that sounds cut by ABORT, the
pending copy of its slot made current and its tail of 500 ms begun; a tail that runs goes on (R161, R146). The plan record is rebuilt by
R133, the stages whose times have come SKIPPED, DONE where CLOSE is among them, after which a carried record is rebuilt once more for the
current day (R143, R132); from UNCONFIGURED it is made as at start-up. A record given before a wrap bears a mark of the model's own
(25.md). Otherwise CONFIG_END is refused. Only a refused shadow has a payload (11.4). -/
def Obligations.Configuration : Prop :=
  (∀ (l : LinkId) (s : State), s.mayAsk l 72 →
     let reply := be 1 s.store.state.code ++ be 1 s.store.loadResult.code ++
       (match s.store.loadFailure with
        | some f => be 1 f.1 ++ be 1 f.2
        | none => [0xFF, 0xFF]) ++
       be 1 (flag s.store.save.isSome) ++ be 1 s.store.lastSave.code
     (s.store.shadow = none → s.configQuiet = true → ∀ e, s.store.eng = some e → ∃ t, exec (.configBegin l) s = .next t ∧
       s.acceptedWith l 72 reply [.store] t ∧ t.store = { s.store with shadow := some e.bytes }) ∧
     (s.store.shadow = none → s.configQuiet = true → s.store.eng = none → ∃ t, exec (.configBegin l) s = .next t ∧
       s.acceptedWith l 72 reply [.store] t ∧
       t.store = { s.store with shadow := some (s.store.lastRead.getD (List.replicate 799 0)) }) ∧
     (s.store.shadow ≠ none ∨ s.configQuiet = false → ∃ t, exec (.configBegin l) s = .next t ∧
       s.answeredOnly l 72 .refusedState reply t) ∧
     (∀ sect offset bytes sh, 1 ≤ bytes.length → bytes.length ≤ 57 → s.store.shadow = some sh → sh.length = 799 →
       let place := be 1 sect ++ be 2 offset
       (1 ≤ sect → sect ≤ 9 → offset + bytes.length ≤ [41, 71, 30, 386, 223, 1, 9, 36, 2].getD (sect - 1) 0 →
         let start := ([41, 71, 30, 386, 223, 1, 9, 36, 2].take (sect - 1)).sum + offset
         ∃ (t : State) (sh' : List Byte), exec (.configWrite l sect offset bytes) s = .next t ∧
           s.acceptedWith l 73 (place ++ be 1 bytes.length) [.store] t ∧ t.store = { s.store with shadow := some sh' } ∧ sh'.length = 799 ∧
           ∀ n, sh'[n]? = if start ≤ n ∧ n < start + bytes.length then bytes[n - start]? else sh[n]?) ∧
       (sect = 0 ∨ 9 < sect ∨ [41, 71, 30, 386, 223, 1, 9, 36, 2].getD (sect - 1) 0 < offset + bytes.length →
         ∃ t, exec (.configWrite l sect offset bytes) s = .next t ∧ s.answeredOnly l 73 .refusedRange (place ++ [0xFF]) t)) ∧
     (∀ sect offset bytes, 1 ≤ bytes.length → bytes.length ≤ 57 → s.store.shadow = none →
       ∃ t, exec (.configWrite l sect offset bytes) s = .next t ∧
         s.answeredOnly l 73 .refusedState (be 1 sect ++ be 2 offset ++ [0xFF]) t) ∧
     (s.store.shadow ≠ none → ∃ t, exec (.configAbort l) s = .next t ∧ s.acceptedWith l 75 [] [.store] t ∧
       t.store = { s.store with shadow := none } ∧ t.latched .config) ∧
     (s.store.shadow = none → ∃ t, exec (.configAbort l) s = .next t ∧ s.answeredOnly l 75 .accepted [] t)) ∧
  (∀ (l : LinkId) (s : State), s.mayAsk l 74 →
     (∀ sh f, s.store.shadow = some sh → s.configQuiet = true →
       firstFailure (Eng.ofBytes sh) s.store.op.raw = some f → ∃ t, exec (.configEnd l) s = .next t ∧
         s.answeredOnly l 74 .refusedRange (be 1 f.1 ++ be 1 f.2) t ∧ t.store = s.store) ∧
     (∀ sh, s.store.shadow = some sh → s.configQuiet = true → firstFailure (Eng.ofBytes sh) s.store.op.raw = none →
       ∃ t, exec (.configEnd l) s = .next t ∧ t.replies l 74 .accepted [] ∧
         t.store.eng = some (Eng.ofBytes sh) ∧ t.store.state = .supervising ∧ t.store.shadow = none ∧ t.latched .config ∧ t.clock = s.clock ∧
         t.floors.table.length = (Eng.ofBytes sh).floorCount ∧ (∀ z ∈ t.floors.zones, z.alarm = false) ∧
         (∀ k ∈ t.bells.lines, k.faulted = false) ∧ t.bells.calls = [] ∧
         (∀ x ∈ t.faults.records, x.isOf .configBad 0 = true → x.active = false) ∧
         t.latched .floorMode ∧ t.latched .zone ∧
         (s.store.state = .supervising → t.drive = Drive.startUp ∧ t.tracker.referenced = false ∧ t.tracker.counter = 0 ∧
           (∀ (f : Nat) (fl : Floor), t.floors.table[f]? = some fl → fl.modeSince = s.clock.count ∧ fl.lit = true ∧
             (s.generalAlarm = true → fl.mode = .fire ∧ fl.cause = some .general) ∧
             (s.generalAlarm = false → fl.cause = none ∧ (fl.mode = .closed ∨ fl.mode = .closing ∧
               ∃ i ∈ t.shuttersOn f, ∃ y, t.shutter? i = some y ∧ y.state.doneClosing = false))) ∧
           t.announce.queue = [] ∧ (s.announce.playout = none → t.announce.playout = none ∧ t.announce.port = s.announce.port) ∧
           (∀ p, s.announce.playout = some p →
             let port := s.announce.port
             (p.phase = .tail → t.announce.playout = some p ∧ t.announce.port = port) ∧
             (p.phase ≠ .tail → t.announce.playout = some { p with
               phase := .tail, outcome := some .aborted, returned := false, timer := 500 }) ∧
             (p.phase ≠ .phrase → t.announce.port = port) ∧
             (p.phase = .phrase → port.state = .starting → t.announce.port = { port with
               state := .idle, startTimer := none, outbox := port.outbox ++ [.abort] }) ∧
             (p.phase = .phrase → port.state = .playing → t.announce.port = { port with
               phraseTimer := none, abortWait := some 100, outbox := port.outbox ++ [.abort] }) ∧
             (∀ c, s.sized → p.phase ≠ .tail → s.announce.pendingCopies[p.slot]? = some (some c) →
               t.copy? p.slot = some c ∧ t.announce.pendingCopies[p.slot]? = some none)) ∧
           ∃ q, t.planAtStart s.plan q ∧
             let settled := t.dayPast q ∧ (q.status = .done ∨ q.status = .abandoned)
             (¬ settled → t.plan = q) ∧ (settled → t.planAtStart q t.plan)) ∧
         (s.store.state = .unconfigured → t.planAtStart s.plan t.plan ∧ t.drive = s.drive ∧ t.tracker = s.tracker ∧
           (∀ sh ∈ t.shutters.table, sh.state = .unknown ∧ sh.hold = false) ∧
           ∀ fl ∈ t.floors.table, fl.mode = (if s.generalAlarm then .fire else .closed) ∧
             fl.cause = (if s.generalAlarm then some .general else none) ∧ fl.modeSince = s.clock.count ∧ fl.lit = true)) ∧
     (s.store.shadow = none ∨ s.configQuiet = false → ∃ t, exec (.configEnd l) s = .next t ∧
       s.answeredOnly l 74 .refusedState [] t))

/-- A save (R199): CONFIG_SAVE takes a snapshot of the applied image and writes it page by page of 32 bytes; a page that stays
busy, a snapshot that reads back otherwise and the time limit fail it with CONFIG_SAVE_FAILED, and a true read-back ends
it well. -/
def Obligations.Saving : Prop :=
  ∀ s : State,
    let fails := fun (c : Instr) (f : SaveFailure) => ∃ t, exec c s = .next t ∧
      t.store = { s.store with save := none, lastSave := .failed, saveFailure := some f } ∧ t.latched .config ∧
      s.actsOn [.store, .faults, .bells, .loop] t ∧ t.faults = s.faults.raise .configSaveFailed 0 s.clock.count
    (∀ l e, s.mayAsk l 49 → s.store.eng = some e → s.store.save = none → ∃ t, exec (.configSave l) s = .next t ∧
      s.acceptedWith l 49 [] [.store] t ∧
      t.store = { s.store with save := some ⟨imageBytes e s.store.op, some 0, 10, 2000⟩ }) ∧
    (∀ l, s.mayAsk l 49 → s.store.eng = none ∨ s.store.save ≠ none → ∃ t, exec (.configSave l) s = .next t ∧
      s.answeredOnly l 49 .refusedState [] t) ∧
    (∀ v k, s.store.save = some v → v.page = some k → ∃ t, exec .savePageReady s = .next t ∧ s.keepsAllBut [.store] t ∧
      t.store = { s.store with save := some { v with
        page := if 32 * (k + 1) < v.snapshot.length then some (k + 1) else none, busyLeft := 10 } }) ∧
    (∀ v k, s.store.save = some v → v.page = some k → fails .saveBusyTimeout .busyTimeout ∧
      ∀ m, exec (.saveReadbackDone m) s = .next s) ∧
    (∀ v, s.store.save = some v → fails .saveTimeLimit .timeLimit) ∧
    (∀ v rest, s.store.save = some v → v.page = none → ∃ t,
      exec (.saveReadbackDone (v.snapshot ++ rest)) s = .next t ∧ s.actsOn [.store] t ∧ t.latched .config ∧
      t.store = { s.store with save := none, lastSave := .good, saveFailure := none }) ∧
    (∀ v m, s.store.save = some v → v.page = none → m.take v.snapshot.length ≠ v.snapshot →
      fails (.saveReadbackDone m) .verifyMismatch) ∧
    (s.store.save = none → exec .savePageReady s = .next s ∧ exec .saveBusyTimeout s = .next s ∧
      exec .saveTimeLimit s = .next s ∧ ∀ m, exec (.saveReadbackDone m) s = .next s)

/-- An engineering and an operating part that the image can hold and that pass the checks come back from the image that they
make, whatever follows it in the memory (10.1, 11.7, R192). -/
def Obligations.ImageRoundTrip : Prop :=
  ∀ (e : Eng) (o : Op) (rest : List Byte), e.fits = true → o.fits e.floorCount = true → firstFailure e o.raw = none →
    (imageBytes e o).length = 1467 ∧
    judge (imageBytes e o ++ rest) = ⟨.good, none, some (e, o), some e.bytes⟩

/-- Every step keeps slot 7 for the evacuation: an entry of the playout queue and the playout are of slot 7 exactly when their class is
EVAC (R144, R148, R154, R155). -/
def Obligations.EvacKeepsSlot7 : Prop := ∀ s t : State, s.announce.evacSlot → step s = .next t → t.announce.evacSlot

/-- Every step keeps the lengths that the spec fixes. -/
def Obligations.SizesKept : Prop := ∀ s t : State, s.sized → step s = .next t → t.sized
end

