-- ==== Sys2Proof/Laws/State.lean ====
section
/-! SUPPORT. What each update of the state leaves in each field: one lemma per field per update, true by rfl. -/

namespace Sys2Proof.Machine

variable (s : State)

/-! ### modFloors -/

@[simp] theorem modFloors_floors (f : Floors → Floors) : (s.modFloors f).floors = f s.floors := rfl
@[simp] theorem modFloors_faults (f : Floors → Floors) : (s.modFloors f).faults = s.faults := rfl
@[simp] theorem modFloors_tracker (f : Floors → Floors) : (s.modFloors f).tracker = s.tracker := rfl
@[simp] theorem modFloors_drive (f : Floors → Floors) : (s.modFloors f).drive = s.drive := rfl
@[simp] theorem modFloors_shutters (f : Floors → Floors) : (s.modFloors f).shutters = s.shutters := rfl
@[simp] theorem modFloors_bells (f : Floors → Floors) : (s.modFloors f).bells = s.bells := rfl
@[simp] theorem modFloors_clock (f : Floors → Floors) : (s.modFloors f).clock = s.clock := rfl
@[simp] theorem modFloors_plan (f : Floors → Floors) : (s.modFloors f).plan = s.plan := rfl
@[simp] theorem modFloors_announce (f : Floors → Floors) : (s.modFloors f).announce = s.announce := rfl
@[simp] theorem modFloors_loop (f : Floors → Floors) : (s.modFloors f).loop = s.loop := rfl
@[simp] theorem modFloors_analog (f : Floors → Floors) : (s.modFloors f).analog = s.analog := rfl
@[simp] theorem modFloors_links (f : Floors → Floors) : (s.modFloors f).links = s.links := rfl
@[simp] theorem modFloors_store (f : Floors → Floors) : (s.modFloors f).store = s.store := rfl
@[simp] theorem modFloors_pending (f : Floors → Floors) : (s.modFloors f).pending = s.pending := rfl

/-! ### modFaults -/

@[simp] theorem modFaults_floors (f : Faults → Faults) : (s.modFaults f).floors = s.floors := rfl
@[simp] theorem modFaults_faults (f : Faults → Faults) : (s.modFaults f).faults = f s.faults := rfl
@[simp] theorem modFaults_tracker (f : Faults → Faults) : (s.modFaults f).tracker = s.tracker := rfl
@[simp] theorem modFaults_drive (f : Faults → Faults) : (s.modFaults f).drive = s.drive := rfl
@[simp] theorem modFaults_shutters (f : Faults → Faults) : (s.modFaults f).shutters = s.shutters := rfl
@[simp] theorem modFaults_bells (f : Faults → Faults) : (s.modFaults f).bells = s.bells := rfl
@[simp] theorem modFaults_clock (f : Faults → Faults) : (s.modFaults f).clock = s.clock := rfl
@[simp] theorem modFaults_plan (f : Faults → Faults) : (s.modFaults f).plan = s.plan := rfl
@[simp] theorem modFaults_announce (f : Faults → Faults) : (s.modFaults f).announce = s.announce := rfl
@[simp] theorem modFaults_loop (f : Faults → Faults) : (s.modFaults f).loop = s.loop := rfl
@[simp] theorem modFaults_analog (f : Faults → Faults) : (s.modFaults f).analog = s.analog := rfl
@[simp] theorem modFaults_links (f : Faults → Faults) : (s.modFaults f).links = s.links := rfl
@[simp] theorem modFaults_store (f : Faults → Faults) : (s.modFaults f).store = s.store := rfl
@[simp] theorem modFaults_pending (f : Faults → Faults) : (s.modFaults f).pending = s.pending := rfl

/-! ### modTracker -/

@[simp] theorem modTracker_floors (f : Tracker → Tracker) : (s.modTracker f).floors = s.floors := rfl
@[simp] theorem modTracker_faults (f : Tracker → Tracker) : (s.modTracker f).faults = s.faults := rfl
@[simp] theorem modTracker_tracker (f : Tracker → Tracker) : (s.modTracker f).tracker = f s.tracker := rfl
@[simp] theorem modTracker_drive (f : Tracker → Tracker) : (s.modTracker f).drive = s.drive := rfl
@[simp] theorem modTracker_shutters (f : Tracker → Tracker) : (s.modTracker f).shutters = s.shutters := rfl
@[simp] theorem modTracker_bells (f : Tracker → Tracker) : (s.modTracker f).bells = s.bells := rfl
@[simp] theorem modTracker_clock (f : Tracker → Tracker) : (s.modTracker f).clock = s.clock := rfl
@[simp] theorem modTracker_plan (f : Tracker → Tracker) : (s.modTracker f).plan = s.plan := rfl
@[simp] theorem modTracker_announce (f : Tracker → Tracker) : (s.modTracker f).announce = s.announce := rfl
@[simp] theorem modTracker_loop (f : Tracker → Tracker) : (s.modTracker f).loop = s.loop := rfl
@[simp] theorem modTracker_analog (f : Tracker → Tracker) : (s.modTracker f).analog = s.analog := rfl
@[simp] theorem modTracker_links (f : Tracker → Tracker) : (s.modTracker f).links = s.links := rfl
@[simp] theorem modTracker_store (f : Tracker → Tracker) : (s.modTracker f).store = s.store := rfl
@[simp] theorem modTracker_pending (f : Tracker → Tracker) : (s.modTracker f).pending = s.pending := rfl

/-! ### modDrive -/

@[simp] theorem modDrive_floors (f : Drive → Drive) : (s.modDrive f).floors = s.floors := rfl
@[simp] theorem modDrive_faults (f : Drive → Drive) : (s.modDrive f).faults = s.faults := rfl
@[simp] theorem modDrive_tracker (f : Drive → Drive) : (s.modDrive f).tracker = s.tracker := rfl
@[simp] theorem modDrive_drive (f : Drive → Drive) : (s.modDrive f).drive = f s.drive := rfl
@[simp] theorem modDrive_shutters (f : Drive → Drive) : (s.modDrive f).shutters = s.shutters := rfl
@[simp] theorem modDrive_bells (f : Drive → Drive) : (s.modDrive f).bells = s.bells := rfl
@[simp] theorem modDrive_clock (f : Drive → Drive) : (s.modDrive f).clock = s.clock := rfl
@[simp] theorem modDrive_plan (f : Drive → Drive) : (s.modDrive f).plan = s.plan := rfl
@[simp] theorem modDrive_announce (f : Drive → Drive) : (s.modDrive f).announce = s.announce := rfl
@[simp] theorem modDrive_loop (f : Drive → Drive) : (s.modDrive f).loop = s.loop := rfl
@[simp] theorem modDrive_analog (f : Drive → Drive) : (s.modDrive f).analog = s.analog := rfl
@[simp] theorem modDrive_links (f : Drive → Drive) : (s.modDrive f).links = s.links := rfl
@[simp] theorem modDrive_store (f : Drive → Drive) : (s.modDrive f).store = s.store := rfl
@[simp] theorem modDrive_pending (f : Drive → Drive) : (s.modDrive f).pending = s.pending := rfl

/-! ### modShutters -/

@[simp] theorem modShutters_floors (f : Shutters → Shutters) : (s.modShutters f).floors = s.floors := rfl
@[simp] theorem modShutters_faults (f : Shutters → Shutters) : (s.modShutters f).faults = s.faults := rfl
@[simp] theorem modShutters_tracker (f : Shutters → Shutters) : (s.modShutters f).tracker = s.tracker := rfl
@[simp] theorem modShutters_drive (f : Shutters → Shutters) : (s.modShutters f).drive = s.drive := rfl
@[simp] theorem modShutters_shutters (f : Shutters → Shutters) : (s.modShutters f).shutters = f s.shutters := rfl
@[simp] theorem modShutters_bells (f : Shutters → Shutters) : (s.modShutters f).bells = s.bells := rfl
@[simp] theorem modShutters_clock (f : Shutters → Shutters) : (s.modShutters f).clock = s.clock := rfl
@[simp] theorem modShutters_plan (f : Shutters → Shutters) : (s.modShutters f).plan = s.plan := rfl
@[simp] theorem modShutters_announce (f : Shutters → Shutters) : (s.modShutters f).announce = s.announce := rfl
@[simp] theorem modShutters_loop (f : Shutters → Shutters) : (s.modShutters f).loop = s.loop := rfl
@[simp] theorem modShutters_analog (f : Shutters → Shutters) : (s.modShutters f).analog = s.analog := rfl
@[simp] theorem modShutters_links (f : Shutters → Shutters) : (s.modShutters f).links = s.links := rfl
@[simp] theorem modShutters_store (f : Shutters → Shutters) : (s.modShutters f).store = s.store := rfl
@[simp] theorem modShutters_pending (f : Shutters → Shutters) : (s.modShutters f).pending = s.pending := rfl

/-! ### modBells -/

@[simp] theorem modBells_floors (f : Bells → Bells) : (s.modBells f).floors = s.floors := rfl
@[simp] theorem modBells_faults (f : Bells → Bells) : (s.modBells f).faults = s.faults := rfl
@[simp] theorem modBells_tracker (f : Bells → Bells) : (s.modBells f).tracker = s.tracker := rfl
@[simp] theorem modBells_drive (f : Bells → Bells) : (s.modBells f).drive = s.drive := rfl
@[simp] theorem modBells_shutters (f : Bells → Bells) : (s.modBells f).shutters = s.shutters := rfl
@[simp] theorem modBells_bells (f : Bells → Bells) : (s.modBells f).bells = f s.bells := rfl
@[simp] theorem modBells_clock (f : Bells → Bells) : (s.modBells f).clock = s.clock := rfl
@[simp] theorem modBells_plan (f : Bells → Bells) : (s.modBells f).plan = s.plan := rfl
@[simp] theorem modBells_announce (f : Bells → Bells) : (s.modBells f).announce = s.announce := rfl
@[simp] theorem modBells_loop (f : Bells → Bells) : (s.modBells f).loop = s.loop := rfl
@[simp] theorem modBells_analog (f : Bells → Bells) : (s.modBells f).analog = s.analog := rfl
@[simp] theorem modBells_links (f : Bells → Bells) : (s.modBells f).links = s.links := rfl
@[simp] theorem modBells_store (f : Bells → Bells) : (s.modBells f).store = s.store := rfl
@[simp] theorem modBells_pending (f : Bells → Bells) : (s.modBells f).pending = s.pending := rfl

/-! ### modClock -/

@[simp] theorem modClock_floors (f : Clock → Clock) : (s.modClock f).floors = s.floors := rfl
@[simp] theorem modClock_faults (f : Clock → Clock) : (s.modClock f).faults = s.faults := rfl
@[simp] theorem modClock_tracker (f : Clock → Clock) : (s.modClock f).tracker = s.tracker := rfl
@[simp] theorem modClock_drive (f : Clock → Clock) : (s.modClock f).drive = s.drive := rfl
@[simp] theorem modClock_shutters (f : Clock → Clock) : (s.modClock f).shutters = s.shutters := rfl
@[simp] theorem modClock_bells (f : Clock → Clock) : (s.modClock f).bells = s.bells := rfl
@[simp] theorem modClock_clock (f : Clock → Clock) : (s.modClock f).clock = f s.clock := rfl
@[simp] theorem modClock_plan (f : Clock → Clock) : (s.modClock f).plan = s.plan := rfl
@[simp] theorem modClock_announce (f : Clock → Clock) : (s.modClock f).announce = s.announce := rfl
@[simp] theorem modClock_loop (f : Clock → Clock) : (s.modClock f).loop = s.loop := rfl
@[simp] theorem modClock_analog (f : Clock → Clock) : (s.modClock f).analog = s.analog := rfl
@[simp] theorem modClock_links (f : Clock → Clock) : (s.modClock f).links = s.links := rfl
@[simp] theorem modClock_store (f : Clock → Clock) : (s.modClock f).store = s.store := rfl
@[simp] theorem modClock_pending (f : Clock → Clock) : (s.modClock f).pending = s.pending := rfl

/-! ### modPlan -/

@[simp] theorem modPlan_floors (f : Plan → Plan) : (s.modPlan f).floors = s.floors := rfl
@[simp] theorem modPlan_faults (f : Plan → Plan) : (s.modPlan f).faults = s.faults := rfl
@[simp] theorem modPlan_tracker (f : Plan → Plan) : (s.modPlan f).tracker = s.tracker := rfl
@[simp] theorem modPlan_drive (f : Plan → Plan) : (s.modPlan f).drive = s.drive := rfl
@[simp] theorem modPlan_shutters (f : Plan → Plan) : (s.modPlan f).shutters = s.shutters := rfl
@[simp] theorem modPlan_bells (f : Plan → Plan) : (s.modPlan f).bells = s.bells := rfl
@[simp] theorem modPlan_clock (f : Plan → Plan) : (s.modPlan f).clock = s.clock := rfl
@[simp] theorem modPlan_plan (f : Plan → Plan) : (s.modPlan f).plan = f s.plan := rfl
@[simp] theorem modPlan_announce (f : Plan → Plan) : (s.modPlan f).announce = s.announce := rfl
@[simp] theorem modPlan_loop (f : Plan → Plan) : (s.modPlan f).loop = s.loop := rfl
@[simp] theorem modPlan_analog (f : Plan → Plan) : (s.modPlan f).analog = s.analog := rfl
@[simp] theorem modPlan_links (f : Plan → Plan) : (s.modPlan f).links = s.links := rfl
@[simp] theorem modPlan_store (f : Plan → Plan) : (s.modPlan f).store = s.store := rfl
@[simp] theorem modPlan_pending (f : Plan → Plan) : (s.modPlan f).pending = s.pending := rfl

/-! ### modAnnounce -/

@[simp] theorem modAnnounce_floors (f : Announce → Announce) : (s.modAnnounce f).floors = s.floors := rfl
@[simp] theorem modAnnounce_faults (f : Announce → Announce) : (s.modAnnounce f).faults = s.faults := rfl
@[simp] theorem modAnnounce_tracker (f : Announce → Announce) : (s.modAnnounce f).tracker = s.tracker := rfl
@[simp] theorem modAnnounce_drive (f : Announce → Announce) : (s.modAnnounce f).drive = s.drive := rfl
@[simp] theorem modAnnounce_shutters (f : Announce → Announce) : (s.modAnnounce f).shutters = s.shutters := rfl
@[simp] theorem modAnnounce_bells (f : Announce → Announce) : (s.modAnnounce f).bells = s.bells := rfl
@[simp] theorem modAnnounce_clock (f : Announce → Announce) : (s.modAnnounce f).clock = s.clock := rfl
@[simp] theorem modAnnounce_plan (f : Announce → Announce) : (s.modAnnounce f).plan = s.plan := rfl
@[simp] theorem modAnnounce_announce (f : Announce → Announce) : (s.modAnnounce f).announce = f s.announce := rfl
@[simp] theorem modAnnounce_loop (f : Announce → Announce) : (s.modAnnounce f).loop = s.loop := rfl
@[simp] theorem modAnnounce_analog (f : Announce → Announce) : (s.modAnnounce f).analog = s.analog := rfl
@[simp] theorem modAnnounce_links (f : Announce → Announce) : (s.modAnnounce f).links = s.links := rfl
@[simp] theorem modAnnounce_store (f : Announce → Announce) : (s.modAnnounce f).store = s.store := rfl
@[simp] theorem modAnnounce_pending (f : Announce → Announce) : (s.modAnnounce f).pending = s.pending := rfl

/-! ### modLoop -/

@[simp] theorem modLoop_floors (f : Loop → Loop) : (s.modLoop f).floors = s.floors := rfl
@[simp] theorem modLoop_faults (f : Loop → Loop) : (s.modLoop f).faults = s.faults := rfl
@[simp] theorem modLoop_tracker (f : Loop → Loop) : (s.modLoop f).tracker = s.tracker := rfl
@[simp] theorem modLoop_drive (f : Loop → Loop) : (s.modLoop f).drive = s.drive := rfl
@[simp] theorem modLoop_shutters (f : Loop → Loop) : (s.modLoop f).shutters = s.shutters := rfl
@[simp] theorem modLoop_bells (f : Loop → Loop) : (s.modLoop f).bells = s.bells := rfl
@[simp] theorem modLoop_clock (f : Loop → Loop) : (s.modLoop f).clock = s.clock := rfl
@[simp] theorem modLoop_plan (f : Loop → Loop) : (s.modLoop f).plan = s.plan := rfl
@[simp] theorem modLoop_announce (f : Loop → Loop) : (s.modLoop f).announce = s.announce := rfl
@[simp] theorem modLoop_loop (f : Loop → Loop) : (s.modLoop f).loop = f s.loop := rfl
@[simp] theorem modLoop_analog (f : Loop → Loop) : (s.modLoop f).analog = s.analog := rfl
@[simp] theorem modLoop_links (f : Loop → Loop) : (s.modLoop f).links = s.links := rfl
@[simp] theorem modLoop_store (f : Loop → Loop) : (s.modLoop f).store = s.store := rfl
@[simp] theorem modLoop_pending (f : Loop → Loop) : (s.modLoop f).pending = s.pending := rfl

/-! ### modAnalog -/

@[simp] theorem modAnalog_floors (f : List Chan → List Chan) : (s.modAnalog f).floors = s.floors := rfl
@[simp] theorem modAnalog_faults (f : List Chan → List Chan) : (s.modAnalog f).faults = s.faults := rfl
@[simp] theorem modAnalog_tracker (f : List Chan → List Chan) : (s.modAnalog f).tracker = s.tracker := rfl
@[simp] theorem modAnalog_drive (f : List Chan → List Chan) : (s.modAnalog f).drive = s.drive := rfl
@[simp] theorem modAnalog_shutters (f : List Chan → List Chan) : (s.modAnalog f).shutters = s.shutters := rfl
@[simp] theorem modAnalog_bells (f : List Chan → List Chan) : (s.modAnalog f).bells = s.bells := rfl
@[simp] theorem modAnalog_clock (f : List Chan → List Chan) : (s.modAnalog f).clock = s.clock := rfl
@[simp] theorem modAnalog_plan (f : List Chan → List Chan) : (s.modAnalog f).plan = s.plan := rfl
@[simp] theorem modAnalog_announce (f : List Chan → List Chan) : (s.modAnalog f).announce = s.announce := rfl
@[simp] theorem modAnalog_loop (f : List Chan → List Chan) : (s.modAnalog f).loop = s.loop := rfl
@[simp] theorem modAnalog_analog (f : List Chan → List Chan) : (s.modAnalog f).analog = f s.analog := rfl
@[simp] theorem modAnalog_links (f : List Chan → List Chan) : (s.modAnalog f).links = s.links := rfl
@[simp] theorem modAnalog_store (f : List Chan → List Chan) : (s.modAnalog f).store = s.store := rfl
@[simp] theorem modAnalog_pending (f : List Chan → List Chan) : (s.modAnalog f).pending = s.pending := rfl

/-! ### modLinks -/

@[simp] theorem modLinks_floors (f : Links → Links) : (s.modLinks f).floors = s.floors := rfl
@[simp] theorem modLinks_faults (f : Links → Links) : (s.modLinks f).faults = s.faults := rfl
@[simp] theorem modLinks_tracker (f : Links → Links) : (s.modLinks f).tracker = s.tracker := rfl
@[simp] theorem modLinks_drive (f : Links → Links) : (s.modLinks f).drive = s.drive := rfl
@[simp] theorem modLinks_shutters (f : Links → Links) : (s.modLinks f).shutters = s.shutters := rfl
@[simp] theorem modLinks_bells (f : Links → Links) : (s.modLinks f).bells = s.bells := rfl
@[simp] theorem modLinks_clock (f : Links → Links) : (s.modLinks f).clock = s.clock := rfl
@[simp] theorem modLinks_plan (f : Links → Links) : (s.modLinks f).plan = s.plan := rfl
@[simp] theorem modLinks_announce (f : Links → Links) : (s.modLinks f).announce = s.announce := rfl
@[simp] theorem modLinks_loop (f : Links → Links) : (s.modLinks f).loop = s.loop := rfl
@[simp] theorem modLinks_analog (f : Links → Links) : (s.modLinks f).analog = s.analog := rfl
@[simp] theorem modLinks_links (f : Links → Links) : (s.modLinks f).links = f s.links := rfl
@[simp] theorem modLinks_store (f : Links → Links) : (s.modLinks f).store = s.store := rfl
@[simp] theorem modLinks_pending (f : Links → Links) : (s.modLinks f).pending = s.pending := rfl

/-! ### modStore -/

@[simp] theorem modStore_floors (f : Store → Store) : (s.modStore f).floors = s.floors := rfl
@[simp] theorem modStore_faults (f : Store → Store) : (s.modStore f).faults = s.faults := rfl
@[simp] theorem modStore_tracker (f : Store → Store) : (s.modStore f).tracker = s.tracker := rfl
@[simp] theorem modStore_drive (f : Store → Store) : (s.modStore f).drive = s.drive := rfl
@[simp] theorem modStore_shutters (f : Store → Store) : (s.modStore f).shutters = s.shutters := rfl
@[simp] theorem modStore_bells (f : Store → Store) : (s.modStore f).bells = s.bells := rfl
@[simp] theorem modStore_clock (f : Store → Store) : (s.modStore f).clock = s.clock := rfl
@[simp] theorem modStore_plan (f : Store → Store) : (s.modStore f).plan = s.plan := rfl
@[simp] theorem modStore_announce (f : Store → Store) : (s.modStore f).announce = s.announce := rfl
@[simp] theorem modStore_loop (f : Store → Store) : (s.modStore f).loop = s.loop := rfl
@[simp] theorem modStore_analog (f : Store → Store) : (s.modStore f).analog = s.analog := rfl
@[simp] theorem modStore_links (f : Store → Store) : (s.modStore f).links = s.links := rfl
@[simp] theorem modStore_store (f : Store → Store) : (s.modStore f).store = f s.store := rfl
@[simp] theorem modStore_pending (f : Store → Store) : (s.modStore f).pending = s.pending := rfl

/-! ### Updates of one record of a block -/

@[simp] theorem modLink_floors (l : LinkId) (f : Link → Link) : (s.modLink l f).floors = s.floors := rfl
@[simp] theorem modLink_faults (l : LinkId) (f : Link → Link) : (s.modLink l f).faults = s.faults := rfl
@[simp] theorem modLink_tracker (l : LinkId) (f : Link → Link) : (s.modLink l f).tracker = s.tracker := rfl
@[simp] theorem modLink_drive (l : LinkId) (f : Link → Link) : (s.modLink l f).drive = s.drive := rfl
@[simp] theorem modLink_shutters (l : LinkId) (f : Link → Link) : (s.modLink l f).shutters = s.shutters := rfl
@[simp] theorem modLink_bells (l : LinkId) (f : Link → Link) : (s.modLink l f).bells = s.bells := rfl
@[simp] theorem modLink_clock (l : LinkId) (f : Link → Link) : (s.modLink l f).clock = s.clock := rfl
@[simp] theorem modLink_plan (l : LinkId) (f : Link → Link) : (s.modLink l f).plan = s.plan := rfl
@[simp] theorem modLink_announce (l : LinkId) (f : Link → Link) : (s.modLink l f).announce = s.announce := rfl
@[simp] theorem modLink_loop (l : LinkId) (f : Link → Link) : (s.modLink l f).loop = s.loop := rfl
@[simp] theorem modLink_analog (l : LinkId) (f : Link → Link) : (s.modLink l f).analog = s.analog := rfl
@[simp] theorem modLink_links (l : LinkId) (f : Link → Link) : (s.modLink l f).links = s.links.mod l f := rfl
@[simp] theorem modLink_store (l : LinkId) (f : Link → Link) : (s.modLink l f).store = s.store := rfl
@[simp] theorem modLink_pending (l : LinkId) (f : Link → Link) : (s.modLink l f).pending = s.pending := rfl

@[simp] theorem modFloor_floors (n : Nat) (g : Floor → Floor) : (s.modFloor n g).floors = { s.floors with table := modAt s.floors.table n g } := rfl
@[simp] theorem modFloor_faults (n : Nat) (g : Floor → Floor) : (s.modFloor n g).faults = s.faults := rfl
@[simp] theorem modFloor_tracker (n : Nat) (g : Floor → Floor) : (s.modFloor n g).tracker = s.tracker := rfl
@[simp] theorem modFloor_drive (n : Nat) (g : Floor → Floor) : (s.modFloor n g).drive = s.drive := rfl
@[simp] theorem modFloor_shutters (n : Nat) (g : Floor → Floor) : (s.modFloor n g).shutters = s.shutters := rfl
@[simp] theorem modFloor_bells (n : Nat) (g : Floor → Floor) : (s.modFloor n g).bells = s.bells := rfl
@[simp] theorem modFloor_clock (n : Nat) (g : Floor → Floor) : (s.modFloor n g).clock = s.clock := rfl
@[simp] theorem modFloor_plan (n : Nat) (g : Floor → Floor) : (s.modFloor n g).plan = s.plan := rfl
@[simp] theorem modFloor_announce (n : Nat) (g : Floor → Floor) : (s.modFloor n g).announce = s.announce := rfl
@[simp] theorem modFloor_loop (n : Nat) (g : Floor → Floor) : (s.modFloor n g).loop = s.loop := rfl
@[simp] theorem modFloor_analog (n : Nat) (g : Floor → Floor) : (s.modFloor n g).analog = s.analog := rfl
@[simp] theorem modFloor_links (n : Nat) (g : Floor → Floor) : (s.modFloor n g).links = s.links := rfl
@[simp] theorem modFloor_store (n : Nat) (g : Floor → Floor) : (s.modFloor n g).store = s.store := rfl
@[simp] theorem modFloor_pending (n : Nat) (g : Floor → Floor) : (s.modFloor n g).pending = s.pending := rfl

@[simp] theorem modZone_floors (n : Nat) (g : Zone → Zone) : (s.modZone n g).floors = { s.floors with zones := modAt s.floors.zones n g } := rfl
@[simp] theorem modZone_faults (n : Nat) (g : Zone → Zone) : (s.modZone n g).faults = s.faults := rfl
@[simp] theorem modZone_tracker (n : Nat) (g : Zone → Zone) : (s.modZone n g).tracker = s.tracker := rfl
@[simp] theorem modZone_drive (n : Nat) (g : Zone → Zone) : (s.modZone n g).drive = s.drive := rfl
@[simp] theorem modZone_shutters (n : Nat) (g : Zone → Zone) : (s.modZone n g).shutters = s.shutters := rfl
@[simp] theorem modZone_bells (n : Nat) (g : Zone → Zone) : (s.modZone n g).bells = s.bells := rfl
@[simp] theorem modZone_clock (n : Nat) (g : Zone → Zone) : (s.modZone n g).clock = s.clock := rfl
@[simp] theorem modZone_plan (n : Nat) (g : Zone → Zone) : (s.modZone n g).plan = s.plan := rfl
@[simp] theorem modZone_announce (n : Nat) (g : Zone → Zone) : (s.modZone n g).announce = s.announce := rfl
@[simp] theorem modZone_loop (n : Nat) (g : Zone → Zone) : (s.modZone n g).loop = s.loop := rfl
@[simp] theorem modZone_analog (n : Nat) (g : Zone → Zone) : (s.modZone n g).analog = s.analog := rfl
@[simp] theorem modZone_links (n : Nat) (g : Zone → Zone) : (s.modZone n g).links = s.links := rfl
@[simp] theorem modZone_store (n : Nat) (g : Zone → Zone) : (s.modZone n g).store = s.store := rfl
@[simp] theorem modZone_pending (n : Nat) (g : Zone → Zone) : (s.modZone n g).pending = s.pending := rfl

@[simp] theorem modLine_floors (n : Nat) (g : Line → Line) : (s.modLine n g).floors = s.floors := rfl
@[simp] theorem modLine_faults (n : Nat) (g : Line → Line) : (s.modLine n g).faults = s.faults := rfl
@[simp] theorem modLine_tracker (n : Nat) (g : Line → Line) : (s.modLine n g).tracker = s.tracker := rfl
@[simp] theorem modLine_drive (n : Nat) (g : Line → Line) : (s.modLine n g).drive = s.drive := rfl
@[simp] theorem modLine_shutters (n : Nat) (g : Line → Line) : (s.modLine n g).shutters = s.shutters := rfl
@[simp] theorem modLine_bells (n : Nat) (g : Line → Line) : (s.modLine n g).bells = { s.bells with lines := s.bells.lines.map fun l => if l.num == n then g l else l } := rfl
@[simp] theorem modLine_clock (n : Nat) (g : Line → Line) : (s.modLine n g).clock = s.clock := rfl
@[simp] theorem modLine_plan (n : Nat) (g : Line → Line) : (s.modLine n g).plan = s.plan := rfl
@[simp] theorem modLine_announce (n : Nat) (g : Line → Line) : (s.modLine n g).announce = s.announce := rfl
@[simp] theorem modLine_loop (n : Nat) (g : Line → Line) : (s.modLine n g).loop = s.loop := rfl
@[simp] theorem modLine_analog (n : Nat) (g : Line → Line) : (s.modLine n g).analog = s.analog := rfl
@[simp] theorem modLine_links (n : Nat) (g : Line → Line) : (s.modLine n g).links = s.links := rfl
@[simp] theorem modLine_store (n : Nat) (g : Line → Line) : (s.modLine n g).store = s.store := rfl
@[simp] theorem modLine_pending (n : Nat) (g : Line → Line) : (s.modLine n g).pending = s.pending := rfl

@[simp] theorem modCall_floors (n : Nat) (g : Call → Call) : (s.modCall n g).floors = s.floors := rfl
@[simp] theorem modCall_faults (n : Nat) (g : Call → Call) : (s.modCall n g).faults = s.faults := rfl
@[simp] theorem modCall_tracker (n : Nat) (g : Call → Call) : (s.modCall n g).tracker = s.tracker := rfl
@[simp] theorem modCall_drive (n : Nat) (g : Call → Call) : (s.modCall n g).drive = s.drive := rfl
@[simp] theorem modCall_shutters (n : Nat) (g : Call → Call) : (s.modCall n g).shutters = s.shutters := rfl
@[simp] theorem modCall_bells (n : Nat) (g : Call → Call) : (s.modCall n g).bells = { s.bells with calls := s.bells.calls.map fun c => if c.callId == n then g c else c } := rfl
@[simp] theorem modCall_clock (n : Nat) (g : Call → Call) : (s.modCall n g).clock = s.clock := rfl
@[simp] theorem modCall_plan (n : Nat) (g : Call → Call) : (s.modCall n g).plan = s.plan := rfl
@[simp] theorem modCall_announce (n : Nat) (g : Call → Call) : (s.modCall n g).announce = s.announce := rfl
@[simp] theorem modCall_loop (n : Nat) (g : Call → Call) : (s.modCall n g).loop = s.loop := rfl
@[simp] theorem modCall_analog (n : Nat) (g : Call → Call) : (s.modCall n g).analog = s.analog := rfl
@[simp] theorem modCall_links (n : Nat) (g : Call → Call) : (s.modCall n g).links = s.links := rfl
@[simp] theorem modCall_store (n : Nat) (g : Call → Call) : (s.modCall n g).store = s.store := rfl
@[simp] theorem modCall_pending (n : Nat) (g : Call → Call) : (s.modCall n g).pending = s.pending := rfl

@[simp] theorem modChan_floors (n : Nat) (g : Chan → Chan) : (s.modChan n g).floors = s.floors := rfl
@[simp] theorem modChan_faults (n : Nat) (g : Chan → Chan) : (s.modChan n g).faults = s.faults := rfl
@[simp] theorem modChan_tracker (n : Nat) (g : Chan → Chan) : (s.modChan n g).tracker = s.tracker := rfl
@[simp] theorem modChan_drive (n : Nat) (g : Chan → Chan) : (s.modChan n g).drive = s.drive := rfl
@[simp] theorem modChan_shutters (n : Nat) (g : Chan → Chan) : (s.modChan n g).shutters = s.shutters := rfl
@[simp] theorem modChan_bells (n : Nat) (g : Chan → Chan) : (s.modChan n g).bells = s.bells := rfl
@[simp] theorem modChan_clock (n : Nat) (g : Chan → Chan) : (s.modChan n g).clock = s.clock := rfl
@[simp] theorem modChan_plan (n : Nat) (g : Chan → Chan) : (s.modChan n g).plan = s.plan := rfl
@[simp] theorem modChan_announce (n : Nat) (g : Chan → Chan) : (s.modChan n g).announce = s.announce := rfl
@[simp] theorem modChan_loop (n : Nat) (g : Chan → Chan) : (s.modChan n g).loop = s.loop := rfl
@[simp] theorem modChan_analog (n : Nat) (g : Chan → Chan) : (s.modChan n g).analog = modAt s.analog n g := rfl
@[simp] theorem modChan_links (n : Nat) (g : Chan → Chan) : (s.modChan n g).links = s.links := rfl
@[simp] theorem modChan_store (n : Nat) (g : Chan → Chan) : (s.modChan n g).store = s.store := rfl
@[simp] theorem modChan_pending (n : Nat) (g : Chan → Chan) : (s.modChan n g).pending = s.pending := rfl

@[simp] theorem modQueue_floors (g : List QueueEntry → List QueueEntry) : (s.modQueue g).floors = s.floors := rfl
@[simp] theorem modQueue_faults (g : List QueueEntry → List QueueEntry) : (s.modQueue g).faults = s.faults := rfl
@[simp] theorem modQueue_tracker (g : List QueueEntry → List QueueEntry) : (s.modQueue g).tracker = s.tracker := rfl
@[simp] theorem modQueue_drive (g : List QueueEntry → List QueueEntry) : (s.modQueue g).drive = s.drive := rfl
@[simp] theorem modQueue_shutters (g : List QueueEntry → List QueueEntry) : (s.modQueue g).shutters = s.shutters := rfl
@[simp] theorem modQueue_bells (g : List QueueEntry → List QueueEntry) : (s.modQueue g).bells = s.bells := rfl
@[simp] theorem modQueue_clock (g : List QueueEntry → List QueueEntry) : (s.modQueue g).clock = s.clock := rfl
@[simp] theorem modQueue_plan (g : List QueueEntry → List QueueEntry) : (s.modQueue g).plan = s.plan := rfl
@[simp] theorem modQueue_announce (g : List QueueEntry → List QueueEntry) : (s.modQueue g).announce = { s.announce with queue := g s.announce.queue } := rfl
@[simp] theorem modQueue_loop (g : List QueueEntry → List QueueEntry) : (s.modQueue g).loop = s.loop := rfl
@[simp] theorem modQueue_analog (g : List QueueEntry → List QueueEntry) : (s.modQueue g).analog = s.analog := rfl
@[simp] theorem modQueue_links (g : List QueueEntry → List QueueEntry) : (s.modQueue g).links = s.links := rfl
@[simp] theorem modQueue_store (g : List QueueEntry → List QueueEntry) : (s.modQueue g).store = s.store := rfl
@[simp] theorem modQueue_pending (g : List QueueEntry → List QueueEntry) : (s.modQueue g).pending = s.pending := rfl

@[simp] theorem modPlayout_floors (g : Playout → Playout) : (s.modPlayout g).floors = s.floors := rfl
@[simp] theorem modPlayout_faults (g : Playout → Playout) : (s.modPlayout g).faults = s.faults := rfl
@[simp] theorem modPlayout_tracker (g : Playout → Playout) : (s.modPlayout g).tracker = s.tracker := rfl
@[simp] theorem modPlayout_drive (g : Playout → Playout) : (s.modPlayout g).drive = s.drive := rfl
@[simp] theorem modPlayout_shutters (g : Playout → Playout) : (s.modPlayout g).shutters = s.shutters := rfl
@[simp] theorem modPlayout_bells (g : Playout → Playout) : (s.modPlayout g).bells = s.bells := rfl
@[simp] theorem modPlayout_clock (g : Playout → Playout) : (s.modPlayout g).clock = s.clock := rfl
@[simp] theorem modPlayout_plan (g : Playout → Playout) : (s.modPlayout g).plan = s.plan := rfl
@[simp] theorem modPlayout_announce (g : Playout → Playout) : (s.modPlayout g).announce = { s.announce with playout := s.announce.playout.map g } := rfl
@[simp] theorem modPlayout_loop (g : Playout → Playout) : (s.modPlayout g).loop = s.loop := rfl
@[simp] theorem modPlayout_analog (g : Playout → Playout) : (s.modPlayout g).analog = s.analog := rfl
@[simp] theorem modPlayout_links (g : Playout → Playout) : (s.modPlayout g).links = s.links := rfl
@[simp] theorem modPlayout_store (g : Playout → Playout) : (s.modPlayout g).store = s.store := rfl
@[simp] theorem modPlayout_pending (g : Playout → Playout) : (s.modPlayout g).pending = s.pending := rfl

@[simp] theorem modPort_floors (g : Port → Port) : (s.modPort g).floors = s.floors := rfl
@[simp] theorem modPort_faults (g : Port → Port) : (s.modPort g).faults = s.faults := rfl
@[simp] theorem modPort_tracker (g : Port → Port) : (s.modPort g).tracker = s.tracker := rfl
@[simp] theorem modPort_drive (g : Port → Port) : (s.modPort g).drive = s.drive := rfl
@[simp] theorem modPort_shutters (g : Port → Port) : (s.modPort g).shutters = s.shutters := rfl
@[simp] theorem modPort_bells (g : Port → Port) : (s.modPort g).bells = s.bells := rfl
@[simp] theorem modPort_clock (g : Port → Port) : (s.modPort g).clock = s.clock := rfl
@[simp] theorem modPort_plan (g : Port → Port) : (s.modPort g).plan = s.plan := rfl
@[simp] theorem modPort_announce (g : Port → Port) : (s.modPort g).announce = { s.announce with port := g s.announce.port } := rfl
@[simp] theorem modPort_loop (g : Port → Port) : (s.modPort g).loop = s.loop := rfl
@[simp] theorem modPort_analog (g : Port → Port) : (s.modPort g).analog = s.analog := rfl
@[simp] theorem modPort_links (g : Port → Port) : (s.modPort g).links = s.links := rfl
@[simp] theorem modPort_store (g : Port → Port) : (s.modPort g).store = s.store := rfl
@[simp] theorem modPort_pending (g : Port → Port) : (s.modPort g).pending = s.pending := rfl

@[simp] theorem modOp_floors (g : Op → Op) : (s.modOp g).floors = s.floors := rfl
@[simp] theorem modOp_faults (g : Op → Op) : (s.modOp g).faults = s.faults := rfl
@[simp] theorem modOp_tracker (g : Op → Op) : (s.modOp g).tracker = s.tracker := rfl
@[simp] theorem modOp_drive (g : Op → Op) : (s.modOp g).drive = s.drive := rfl
@[simp] theorem modOp_shutters (g : Op → Op) : (s.modOp g).shutters = s.shutters := rfl
@[simp] theorem modOp_bells (g : Op → Op) : (s.modOp g).bells = s.bells := rfl
@[simp] theorem modOp_clock (g : Op → Op) : (s.modOp g).clock = s.clock := rfl
@[simp] theorem modOp_plan (g : Op → Op) : (s.modOp g).plan = s.plan := rfl
@[simp] theorem modOp_announce (g : Op → Op) : (s.modOp g).announce = s.announce := rfl
@[simp] theorem modOp_loop (g : Op → Op) : (s.modOp g).loop = s.loop := rfl
@[simp] theorem modOp_analog (g : Op → Op) : (s.modOp g).analog = s.analog := rfl
@[simp] theorem modOp_links (g : Op → Op) : (s.modOp g).links = s.links := rfl
@[simp] theorem modOp_store (g : Op → Op) : (s.modOp g).store = { s.store with op := g s.store.op } := rfl
@[simp] theorem modOp_pending (g : Op → Op) : (s.modOp g).pending = s.pending := rfl

@[simp] theorem writePoint_floors (p : Nat) (on : Bool) : (writePoint p on s).floors = s.floors := rfl
@[simp] theorem writePoint_faults (p : Nat) (on : Bool) : (writePoint p on s).faults = s.faults := rfl
@[simp] theorem writePoint_tracker (p : Nat) (on : Bool) : (writePoint p on s).tracker = s.tracker := rfl
@[simp] theorem writePoint_drive (p : Nat) (on : Bool) : (writePoint p on s).drive = s.drive := rfl
@[simp] theorem writePoint_shutters (p : Nat) (on : Bool) : (writePoint p on s).shutters = s.shutters := rfl
@[simp] theorem writePoint_bells (p : Nat) (on : Bool) : (writePoint p on s).bells = s.bells := rfl
@[simp] theorem writePoint_clock (p : Nat) (on : Bool) : (writePoint p on s).clock = s.clock := rfl
@[simp] theorem writePoint_plan (p : Nat) (on : Bool) : (writePoint p on s).plan = s.plan := rfl
@[simp] theorem writePoint_announce (p : Nat) (on : Bool) : (writePoint p on s).announce = s.announce := rfl
@[simp] theorem writePoint_loop (p : Nat) (on : Bool) : (writePoint p on s).loop = { s.loop with out := s.loop.out.set p on } := rfl
@[simp] theorem writePoint_analog (p : Nat) (on : Bool) : (writePoint p on s).analog = s.analog := rfl
@[simp] theorem writePoint_links (p : Nat) (on : Bool) : (writePoint p on s).links = s.links := rfl
@[simp] theorem writePoint_store (p : Nat) (on : Bool) : (writePoint p on s).store = s.store := rfl
@[simp] theorem writePoint_pending (p : Nat) (on : Bool) : (writePoint p on s).pending = s.pending := rfl

@[simp] theorem setEvent_floors (e : Event) : (setEvent e s).floors = s.floors := rfl
@[simp] theorem setEvent_faults (e : Event) : (setEvent e s).faults = s.faults := rfl
@[simp] theorem setEvent_tracker (e : Event) : (setEvent e s).tracker = s.tracker := rfl
@[simp] theorem setEvent_drive (e : Event) : (setEvent e s).drive = s.drive := rfl
@[simp] theorem setEvent_shutters (e : Event) : (setEvent e s).shutters = s.shutters := rfl
@[simp] theorem setEvent_bells (e : Event) : (setEvent e s).bells = s.bells := rfl
@[simp] theorem setEvent_clock (e : Event) : (setEvent e s).clock = s.clock := rfl
@[simp] theorem setEvent_plan (e : Event) : (setEvent e s).plan = s.plan := rfl
@[simp] theorem setEvent_announce (e : Event) : (setEvent e s).announce = s.announce := rfl
@[simp] theorem setEvent_loop (e : Event) : (setEvent e s).loop = s.loop := rfl
@[simp] theorem setEvent_analog (e : Event) : (setEvent e s).analog = s.analog := rfl
@[simp] theorem setEvent_links (e : Event) : (setEvent e s).links = s.links.map (Link.takeEvent e) := rfl
@[simp] theorem setEvent_store (e : Event) : (setEvent e s).store = s.store := rfl
@[simp] theorem setEvent_pending (e : Event) : (setEvent e s).pending = s.pending := rfl

/-! ### One link of three -/

@[simp] theorem links_get_mod_F_F (ks : Links) (f : Link → Link) : (ks.mod .F f).get .F = f (ks.get .F) := rfl
@[simp] theorem links_get_mod_F_O (ks : Links) (f : Link → Link) : (ks.mod .F f).get .O = ks.get .O := rfl
@[simp] theorem links_get_mod_F_E (ks : Links) (f : Link → Link) : (ks.mod .F f).get .E = ks.get .E := rfl
@[simp] theorem links_get_mod_O_F (ks : Links) (f : Link → Link) : (ks.mod .O f).get .F = ks.get .F := rfl
@[simp] theorem links_get_mod_O_O (ks : Links) (f : Link → Link) : (ks.mod .O f).get .O = f (ks.get .O) := rfl
@[simp] theorem links_get_mod_O_E (ks : Links) (f : Link → Link) : (ks.mod .O f).get .E = ks.get .E := rfl
@[simp] theorem links_get_mod_E_F (ks : Links) (f : Link → Link) : (ks.mod .E f).get .F = ks.get .F := rfl
@[simp] theorem links_get_mod_E_O (ks : Links) (f : Link → Link) : (ks.mod .E f).get .O = ks.get .O := rfl
@[simp] theorem links_get_mod_E_E (ks : Links) (f : Link → Link) : (ks.mod .E f).get .E = f (ks.get .E) := rfl

@[simp] theorem links_get_map (ks : Links) (f : Link → Link) (l : LinkId) : (ks.map f).get l = f (ks.get l) := by cases l <;> rfl

theorem links_get_mod (ks : Links) (f : Link → Link) (l m : LinkId) :
    (ks.mod l f).get m = if m = l then f (ks.get m) else ks.get m := by cases l <;> cases m <;> rfl

@[simp] theorem links_mod_address (ks : Links) (f : Link → Link) (l : LinkId) : (ks.mod l f).address = ks.address := by
  cases l <;> rfl

@[simp] theorem links_map_address (ks : Links) (f : Link → Link) : (ks.map f).address = ks.address := rfl

@[simp] theorem link_modLink_same (f : Link → Link) (l : LinkId) : (s.modLink l f).link l = f (s.link l) := by
  cases l <;> rfl

theorem link_modLink_other (f : Link → Link) (l m : LinkId) (h : m ≠ l) : (s.modLink l f).link m = s.link m := by
  cases l <;> cases m <;> first | rfl | exact absurd rfl h

/-! ### One member of a list -/

theorem getElem?_modAt {α : Type} (xs : List α) (i j : Nat) (f : α → α) :
    (modAt xs i f)[j]? = if j = i then xs[j]?.map f else xs[j]? := by
  induction xs generalizing i j with
  | nil => simp [modAt]
  | cons x rest ih => cases i <;> cases j <;> simp [modAt, ih]

@[simp] theorem length_modAt {α : Type} (xs : List α) (i : Nat) (f : α → α) : (modAt xs i f).length = xs.length := by
  induction xs generalizing i with
  | nil => rfl
  | cons x rest ih => cases i <;> simp [modAt, ih]

end Sys2Proof.Machine
end

