-- ==== Sys2Proof/Laws/Frames.lean ====
section
/-! SUPPORT. For each shared operation, which blocks it can change: every other block, and the queue of commands, is kept. -/

namespace Sys2Proof.Machine

set_option linter.unreachableTactic false
set_option linter.unusedTactic false

/-! ### The frame relation -/

theorem keeps_refl (s : State) (L : List Block) : s.keepsAllBut L s := ⟨rfl, fun b => .inr (by cases b <;> rfl)⟩

theorem Block.same_trans {b : Block} {s t u : State} (h : b.same s t) (g : b.same t u) : b.same s u := by
  cases b <;> exact Eq.trans g h

theorem keeps_step {s t u : State} {L L' : List Block} (h : t.keepsAllBut L' u) (sub : ∀ b ∈ L', b ∈ L)
    (g : s.keepsAllBut L t) : s.keepsAllBut L u :=
  ⟨h.1.trans g.1, fun b => (h.2 b).elim (fun m => .inl (sub b m)) fun e => (g.2 b).imp id fun f => Block.same_trans f e⟩

theorem keeps_mono {s t : State} {L L' : List Block} (h : s.keepsAllBut L' t) (sub : ∀ b ∈ L', b ∈ L) :
    s.keepsAllBut L t := keeps_step h sub (keeps_refl s L)

theorem keeps_id {s t : State} {L : List Block} (h : s.keepsAllBut L t) : s.keepsAllBut L (id t) := h

theorem keeps_foldl {α : Type} {s t : State} {L : List Block} {f : State → α → State} {xs : List α}
    (h : ∀ (u : State) (x : α), u.keepsAllBut L (f u x)) (g : s.keepsAllBut L t) : s.keepsAllBut L (xs.foldl f t) := by
  induction xs generalizing t with
  | nil => exact g
  | cons x xs ih => exact ih (keeps_step (h t x) (fun _ m => m) g)

/-- A block that is not listed is the same. -/
theorem State.keepsAllBut.same {s t : State} {L : List Block} (h : s.keepsAllBut L t) (b : Block) (hb : b ∉ L) : b.same s t :=
  (h.2 b).resolve_left hb

/-! ### The updates -/

theorem modFloors_keeps (f : Floors → Floors) (s : State) : s.keepsAllBut [.floors] (s.modFloors f) :=
  ⟨rfl, fun b => by cases b <;> simp [Block.same]⟩

theorem modFaults_keeps (f : Faults → Faults) (s : State) : s.keepsAllBut [.faults] (s.modFaults f) :=
  ⟨rfl, fun b => by cases b <;> simp [Block.same]⟩

theorem modTracker_keeps (f : Tracker → Tracker) (s : State) : s.keepsAllBut [.tracker] (s.modTracker f) :=
  ⟨rfl, fun b => by cases b <;> simp [Block.same]⟩

theorem modDrive_keeps (f : Drive → Drive) (s : State) : s.keepsAllBut [.drive] (s.modDrive f) :=
  ⟨rfl, fun b => by cases b <;> simp [Block.same]⟩

theorem modShutters_keeps (f : Shutters → Shutters) (s : State) : s.keepsAllBut [.shutters] (s.modShutters f) :=
  ⟨rfl, fun b => by cases b <;> simp [Block.same]⟩

theorem modBells_keeps (f : Bells → Bells) (s : State) : s.keepsAllBut [.bells] (s.modBells f) :=
  ⟨rfl, fun b => by cases b <;> simp [Block.same]⟩

theorem modClock_keeps (f : Clock → Clock) (s : State) : s.keepsAllBut [.clock] (s.modClock f) :=
  ⟨rfl, fun b => by cases b <;> simp [Block.same]⟩

theorem modPlan_keeps (f : Plan → Plan) (s : State) : s.keepsAllBut [.plan] (s.modPlan f) :=
  ⟨rfl, fun b => by cases b <;> simp [Block.same]⟩

theorem modAnnounce_keeps (f : Announce → Announce) (s : State) : s.keepsAllBut [.announce] (s.modAnnounce f) :=
  ⟨rfl, fun b => by cases b <;> simp [Block.same]⟩

theorem modLoop_keeps (f : Loop → Loop) (s : State) : s.keepsAllBut [.loop] (s.modLoop f) :=
  ⟨rfl, fun b => by cases b <;> simp [Block.same]⟩

theorem modAnalog_keeps (f : List Chan → List Chan) (s : State) : s.keepsAllBut [.analog] (s.modAnalog f) :=
  ⟨rfl, fun b => by cases b <;> simp [Block.same]⟩

theorem modLinks_keeps (f : Links → Links) (s : State) : s.keepsAllBut [.links] (s.modLinks f) :=
  ⟨rfl, fun b => by cases b <;> simp [Block.same]⟩

theorem modStore_keeps (f : Store → Store) (s : State) : s.keepsAllBut [.store] (s.modStore f) :=
  ⟨rfl, fun b => by cases b <;> simp [Block.same]⟩

theorem modLink_keeps (l : LinkId) (f : Link → Link) (s : State) : s.keepsAllBut [.links] (State.modLink l f s) :=
  ⟨rfl, fun b => by cases b <;> simp [Block.same]⟩

theorem setEvent_keeps (e : Event) (s : State) : s.keepsAllBut [.links] (setEvent e s) :=
  ⟨rfl, fun b => by cases b <;> simp [Block.same]⟩

theorem setEventIf_keeps (c : Bool) (e : Event) (s : State) : s.keepsAllBut [.links] (setEventIf c e s) := by
  unfold setEventIf
  try dsimp only
  repeat'
    first
      | with_reducible exact keeps_refl _ _
      | with_reducible apply keeps_step (setEvent_keeps _ _)
      | with_reducible refine keeps_foldl (fun _ _ => ?_) ?_
      | with_reducible apply keeps_id
      | split
      | decide

theorem writePoint_keeps (p : Nat) (on : Bool) (s : State) : s.keepsAllBut [.loop] (writePoint p on s) :=
  ⟨rfl, fun b => by cases b <;> simp [Block.same]⟩

theorem writePoints_keeps (ps : List Nat) (on : Bool) (s : State) : s.keepsAllBut [.loop] (writePoints ps on s) := by
  unfold writePoints
  try dsimp only
  repeat'
    first
      | with_reducible exact keeps_refl _ _
      | with_reducible apply keeps_step (writePoint_keeps _ _ _)
      | with_reducible refine keeps_foldl (fun _ _ => ?_) ?_
      | with_reducible apply keeps_id
      | split
      | decide

theorem modFloor_keeps (f : Nat) (g : Floor → Floor) (s : State) : s.keepsAllBut [.floors] (State.modFloor f g s) :=
  ⟨rfl, fun b => by cases b <;> simp [Block.same]⟩

theorem modZone_keeps (z : Nat) (g : Zone → Zone) (s : State) : s.keepsAllBut [.floors] (State.modZone z g s) :=
  ⟨rfl, fun b => by cases b <;> simp [Block.same]⟩

theorem modLine_keeps (n : Nat) (g : Line → Line) (s : State) : s.keepsAllBut [.bells] (State.modLine n g s) :=
  ⟨rfl, fun b => by cases b <;> simp [Block.same]⟩

theorem modCall_keeps (id : Nat) (g : Call → Call) (s : State) : s.keepsAllBut [.bells] (State.modCall id g s) :=
  ⟨rfl, fun b => by cases b <;> simp [Block.same]⟩

theorem modChan_keeps (c : Nat) (g : Chan → Chan) (s : State) : s.keepsAllBut [.analog] (State.modChan c g s) :=
  ⟨rfl, fun b => by cases b <;> simp [Block.same]⟩

theorem strokeOn_keeps (n : Nat) (s : State) : s.keepsAllBut [.bells, .loop] (strokeOn n s) := by
  unfold strokeOn
  try dsimp only
  repeat'
    first
      | with_reducible exact keeps_refl _ _
      | with_reducible apply keeps_step (modLine_keeps _ _ _)
      | with_reducible apply keeps_step (writePoint_keeps _ _ _)
      | with_reducible refine keeps_foldl (fun _ _ => ?_) ?_
      | with_reducible apply keeps_id
      | split
      | decide

theorem strokeOff_keeps (n : Nat) (s : State) : s.keepsAllBut [.bells, .loop] (strokeOff n s) := by
  unfold strokeOff
  try dsimp only
  repeat'
    first
      | with_reducible exact keeps_refl _ _
      | with_reducible apply keeps_step (modLine_keeps _ _ _)
      | with_reducible apply keeps_step (writePoint_keeps _ _ _)
      | with_reducible refine keeps_foldl (fun _ _ => ?_) ?_
      | with_reducible apply keeps_id
      | split
      | decide

theorem beginPattern_keeps (n : Nat) (r : SoundReq) (rest : List SoundReq) (s : State) : s.keepsAllBut [.bells, .loop] (beginPattern n r rest s) := by
  unfold beginPattern
  try dsimp only
  repeat'
    first
      | with_reducible exact keeps_refl _ _
      | with_reducible apply keeps_step (strokeOn_keeps _ _)
      | with_reducible apply keeps_step (modLine_keeps _ _ _)
      | with_reducible refine keeps_foldl (fun _ _ => ?_) ?_
      | with_reducible apply keeps_id
      | split
      | decide

theorem beginRing_keeps (n : Nat) (s : State) : s.keepsAllBut [.bells, .loop] (beginRing n s) := by
  unfold beginRing
  try dsimp only
  repeat'
    first
      | with_reducible exact keeps_refl _ _
      | with_reducible apply keeps_step (strokeOn_keeps _ _)
      | with_reducible apply keeps_step (modLine_keeps _ _ _)
      | with_reducible refine keeps_foldl (fun _ _ => ?_) ?_
      | with_reducible apply keeps_id
      | split
      | decide

theorem serveLine_keeps (n : Nat) (s : State) : s.keepsAllBut [.bells, .loop] (serveLine n s) := by
  unfold serveLine
  try dsimp only
  repeat'
    first
      | with_reducible exact keeps_refl _ _
      | with_reducible apply keeps_step (beginRing_keeps _ _)
      | with_reducible apply keeps_step (beginPattern_keeps _ _ _ _)
      | with_reducible refine keeps_foldl (fun _ _ => ?_) ?_
      | with_reducible apply keeps_id
      | split
      | decide

theorem cutLine_keeps (n : Nat) (s : State) : s.keepsAllBut [.bells, .loop] (cutLine n s) := by
  unfold cutLine
  try dsimp only
  repeat'
    first
      | with_reducible exact keeps_refl _ _
      | with_reducible apply keeps_step (serveLine_keeps _ _)
      | with_reducible apply keeps_step (modLine_keeps _ _ _)
      | with_reducible refine keeps_foldl (fun _ _ => ?_) ?_
      | with_reducible apply keeps_id
      | split
      | decide

theorem placeReq_keeps (n : Nat) (r : SoundReq) (s : State) : s.keepsAllBut [.bells, .loop] (placeReq n r s) := by
  unfold placeReq
  try dsimp only
  repeat'
    first
      | with_reducible exact keeps_refl _ _
      | with_reducible apply keeps_step (serveLine_keeps _ _)
      | with_reducible apply keeps_step (modLine_keeps _ _ _)
      | with_reducible refine keeps_foldl (fun _ _ => ?_) ?_
      | with_reducible apply keeps_id
      | split
      | decide

theorem placeClosing_keeps (ns : List Nat) (s : State) : s.keepsAllBut [.bells, .loop] (placeClosing ns s) := by
  unfold placeClosing
  try dsimp only
  repeat'
    first
      | with_reducible exact keeps_refl _ _
      | with_reducible apply keeps_step (placeReq_keeps _ _ _)
      | with_reducible refine keeps_foldl (fun _ _ => ?_) ?_
      | with_reducible apply keeps_id
      | split
      | decide

theorem troubleSignal_keeps (s : State) : s.keepsAllBut [.bells, .loop] (troubleSignal s) := by
  unfold troubleSignal
  try dsimp only
  repeat'
    first
      | with_reducible exact keeps_refl _ _
      | with_reducible apply keeps_step (placeReq_keeps _ _ _)
      | with_reducible refine keeps_foldl (fun _ _ => ?_) ?_
      | with_reducible apply keeps_id
      | split
      | decide

theorem raiseFault_keeps (k : FaultKind) (src : Nat) (s : State) : s.keepsAllBut [.faults, .bells, .loop, .links] (raiseFault k src s) := by
  unfold raiseFault
  try dsimp only
  repeat'
    first
      | with_reducible exact keeps_refl _ _
      | with_reducible apply keeps_step (troubleSignal_keeps _)
      | with_reducible apply keeps_step (setEventIf_keeps _ _ _)
      | with_reducible apply keeps_step (modFaults_keeps _ _)
      | with_reducible refine keeps_foldl (fun _ _ => ?_) ?_
      | with_reducible apply keeps_id
      | split
      | decide

theorem endFault_keeps (k : FaultKind) (src : Nat) (s : State) : s.keepsAllBut [.faults, .links] (endFault k src s) := by
  unfold endFault
  try dsimp only
  repeat'
    first
      | with_reducible exact keeps_refl _ _
      | with_reducible apply keeps_step (setEvent_keeps _ _)
      | with_reducible apply keeps_step (modFaults_keeps _ _)
      | with_reducible refine keeps_foldl (fun _ _ => ?_) ?_
      | with_reducible apply keeps_id
      | split
      | decide

theorem roundComplete_keeps (id : Nat) (s : State) : s.keepsAllBut [.bells, .links] (roundComplete id s) := by
  unfold roundComplete
  try dsimp only
  repeat'
    first
      | with_reducible exact keeps_refl _ _
      | with_reducible apply keeps_step (modCall_keeps _ _ _)
      | with_reducible apply keeps_step (setEvent_keeps _ _)
      | with_reducible refine keeps_foldl (fun _ _ => ?_) ?_
      | with_reducible apply keeps_id
      | split
      | decide

theorem callDone_keeps (id : Nat) (n : Nat) (s : State) : s.keepsAllBut [.bells, .links] (callDone id n s) := by
  unfold callDone
  try dsimp only
  repeat'
    first
      | with_reducible exact keeps_refl _ _
      | with_reducible apply keeps_step (roundComplete_keeps _ _)
      | with_reducible apply keeps_step (modCall_keeps _ _ _)
      | with_reducible refine keeps_foldl (fun _ _ => ?_) ?_
      | with_reducible apply keeps_id
      | split
      | decide

theorem roundLine_keeps (id : Nat) (code : Nat) (s : State) (n : Nat) : s.keepsAllBut [.bells, .loop] (roundLine id code s n) := by
  unfold roundLine
  try dsimp only
  repeat'
    first
      | with_reducible exact keeps_refl _ _
      | with_reducible apply keeps_step (placeReq_keeps _ _ _)
      | with_reducible apply keeps_step (modCall_keeps _ _ _)
      | with_reducible refine keeps_foldl (fun _ _ => ?_) ?_
      | with_reducible apply keeps_id
      | split
      | decide

theorem beginRound_keeps (id : Nat) (s : State) : s.keepsAllBut [.bells, .loop, .links] (beginRound id s) := by
  unfold beginRound
  try dsimp only
  repeat'
    first
      | with_reducible exact keeps_refl _ _
      | with_reducible apply keeps_step (roundLine_keeps _ _ _ _)
      | with_reducible apply keeps_step (roundComplete_keeps _ _)
      | with_reducible apply keeps_step (modCall_keeps _ _ _)
      | with_reducible refine keeps_foldl (fun _ _ => ?_) ?_
      | with_reducible apply keeps_id
      | split
      | decide

theorem removeCalls_keeps (gone : Call → Bool) (s : State) : s.keepsAllBut [.bells] (removeCalls gone s) := by
  unfold removeCalls
  try dsimp only
  repeat'
    first
      | with_reducible exact keeps_refl _ _
      | with_reducible apply keeps_step (modBells_keeps _ _)
      | with_reducible refine keeps_foldl (fun _ _ => ?_) ?_
      | with_reducible apply keeps_id
      | split
      | decide

theorem newCall_keeps (p : Nat) (s : State) : s.keepsAllBut [.bells, .loop, .links] (newCall p s) := by
  unfold newCall
  try dsimp only
  repeat'
    first
      | with_reducible exact keeps_refl _ _
      | with_reducible apply keeps_step (beginRound_keeps _ _)
      | with_reducible apply keeps_step (setEvent_keeps _ _)
      | with_reducible apply keeps_step (modBells_keeps _ _)
      | with_reducible refine keeps_foldl (fun _ _ => ?_) ?_
      | with_reducible apply keeps_id
      | split
      | decide

theorem callPress_keeps (p : Nat) (s : State) : s.keepsAllBut [.faults, .bells, .loop, .links] (callPress p s) := by
  unfold callPress
  try dsimp only
  repeat'
    first
      | with_reducible exact keeps_refl _ _
      | with_reducible apply keeps_step (newCall_keeps _ _)
      | with_reducible apply keeps_step (removeCalls_keeps _ _)
      | with_reducible apply keeps_step (beginRound_keeps _ _)
      | with_reducible apply keeps_step (raiseFault_keeps _ _ _)
      | with_reducible apply keeps_step (modCall_keeps _ _ _)
      | with_reducible refine keeps_foldl (fun _ _ => ?_) ?_
      | with_reducible apply keeps_id
      | split
      | decide

theorem lineForgetCall_keeps (id : Nat) (s : State) (n : Nat) : s.keepsAllBut [.bells, .loop] (lineForgetCall id s n) := by
  unfold lineForgetCall
  try dsimp only
  repeat'
    first
      | with_reducible exact keeps_refl _ _
      | with_reducible apply keeps_step (cutLine_keeps _ _)
      | with_reducible apply keeps_step (modLine_keeps _ _ _)
      | with_reducible refine keeps_foldl (fun _ _ => ?_) ?_
      | with_reducible apply keeps_id
      | split
      | decide

theorem endCall_keeps (id : Nat) (st : CallState) (answered : Option Nat) (s : State) : s.keepsAllBut [.bells, .loop, .links] (endCall id st answered s) := by
  unfold endCall
  try dsimp only
  repeat'
    first
      | with_reducible exact keeps_refl _ _
      | with_reducible apply keeps_step (lineForgetCall_keeps _ _ _)
      | with_reducible apply keeps_step (modCall_keeps _ _ _)
      | with_reducible apply keeps_step (setEvent_keeps _ _)
      | with_reducible refine keeps_foldl (fun _ _ => ?_) ?_
      | with_reducible apply keeps_id
      | split
      | decide

theorem callAnswer_keeps (f : Nat) (s : State) : s.keepsAllBut [.bells, .loop, .links] (callAnswer f s) := by
  unfold callAnswer
  try dsimp only
  repeat'
    first
      | with_reducible exact keeps_refl _ _
      | with_reducible apply keeps_step (endCall_keeps _ _ _ _)
      | with_reducible refine keeps_foldl (fun _ _ => ?_) ?_
      | with_reducible apply keeps_id
      | split
      | decide

theorem lineEnterFire_keeps (s : State) (n : Nat) : s.keepsAllBut [.bells, .loop] (lineEnterFire s n) := by
  unfold lineEnterFire
  try dsimp only
  repeat'
    first
      | with_reducible exact keeps_refl _ _
      | with_reducible apply keeps_step (cutLine_keeps _ _)
      | with_reducible apply keeps_step (modLine_keeps _ _ _)
      | with_reducible refine keeps_foldl (fun _ _ => ?_) ?_
      | with_reducible apply keeps_id
      | split
      | decide

theorem lineRing_keeps (s : State) (n : Nat) : s.keepsAllBut [.bells, .loop] (lineRing s n) := by
  unfold lineRing
  try dsimp only
  repeat'
    first
      | with_reducible exact keeps_refl _ _
      | with_reducible apply keeps_step (cutLine_keeps _ _)
      | with_reducible apply keeps_step (serveLine_keeps _ _)
      | with_reducible refine keeps_foldl (fun _ _ => ?_) ?_
      | with_reducible apply keeps_id
      | split
      | decide

theorem ringBegins_keeps (s : State) : s.keepsAllBut [.bells, .loop] (ringBegins s) := by
  unfold ringBegins
  try dsimp only
  repeat'
    first
      | with_reducible exact keeps_refl _ _
      | with_reducible apply keeps_step (lineRing_keeps _ _)
      | with_reducible refine keeps_foldl (fun _ _ => ?_) ?_
      | with_reducible apply keeps_id
      | split
      | decide

theorem discardRounds_keeps (s : State) : s.keepsAllBut [.bells] (discardRounds s) := by
  unfold discardRounds
  try dsimp only
  repeat'
    first
      | with_reducible exact keeps_refl _ _
      | with_reducible apply keeps_step (modBells_keeps _ _)
      | with_reducible refine keeps_foldl (fun _ _ => ?_) ?_
      | with_reducible apply keeps_id
      | split
      | decide

theorem bellsEnterFire_keeps (s : State) : s.keepsAllBut [.bells, .loop] (bellsEnterFire s) := by
  unfold bellsEnterFire
  try dsimp only
  repeat'
    first
      | with_reducible exact keeps_refl _ _
      | with_reducible apply keeps_step (discardRounds_keeps _)
      | with_reducible apply keeps_step (ringBegins_keeps _)
      | with_reducible apply keeps_step (lineEnterFire_keeps _ _)
      | with_reducible refine keeps_foldl (fun _ _ => ?_) ?_
      | with_reducible apply keeps_id
      | split
      | decide

theorem lineRingStops_keeps (s : State) (n : Nat) : s.keepsAllBut [.bells, .loop] (lineRingStops s n) := by
  unfold lineRingStops
  try dsimp only
  repeat'
    first
      | with_reducible exact keeps_refl _ _
      | with_reducible apply keeps_step (cutLine_keeps _ _)
      | with_reducible refine keeps_foldl (fun _ _ => ?_) ?_
      | with_reducible apply keeps_id
      | split
      | decide

theorem ringStops_keeps (s : State) : s.keepsAllBut [.bells, .loop] (ringStops s) := by
  unfold ringStops
  try dsimp only
  repeat'
    first
      | with_reducible exact keeps_refl _ _
      | with_reducible apply keeps_step (lineRingStops_keeps _ _)
      | with_reducible refine keeps_foldl (fun _ _ => ?_) ?_
      | with_reducible apply keeps_id
      | split
      | decide

theorem dueRoundsBegin_keeps (s : State) : s.keepsAllBut [.bells, .loop, .links] (dueRoundsBegin s) := by
  unfold dueRoundsBegin
  try dsimp only
  repeat'
    first
      | with_reducible exact keeps_refl _ _
      | with_reducible apply keeps_step (beginRound_keeps _ _)
      | with_reducible refine keeps_foldl (fun _ _ => ?_) ?_
      | with_reducible apply keeps_id
      | split
      | decide

theorem lineWithdraw_keeps (s : State) (n : Nat) : s.keepsAllBut [.bells, .loop] (lineWithdraw s n) := by
  unfold lineWithdraw
  try dsimp only
  repeat'
    first
      | with_reducible exact keeps_refl _ _
      | with_reducible apply keeps_step (cutLine_keeps _ _)
      | with_reducible apply keeps_step (modLine_keeps _ _ _)
      | with_reducible refine keeps_foldl (fun _ _ => ?_) ?_
      | with_reducible apply keeps_id
      | split
      | decide

theorem reboard_keeps (s : State) : s.keepsAllBut [.floors, .loop] (reboard s) := by
  unfold reboard
  try dsimp only
  repeat'
    first
      | with_reducible exact keeps_refl _ _
      | with_reducible apply keeps_step (writePoints_keeps _ _ _)
      | with_reducible apply keeps_step (modFloors_keeps _ _)
      | with_reducible refine keeps_foldl (fun _ _ => ?_) ?_
      | with_reducible apply keeps_id
      | split
      | decide

theorem setMode_keeps (f : Nat) (m : FloorMode) (s : State) : s.keepsAllBut [.floors, .loop, .links] (setMode f m s) := by
  unfold setMode
  try dsimp only
  repeat'
    first
      | with_reducible exact keeps_refl _ _
      | with_reducible apply keeps_step (reboard_keeps _)
      | with_reducible apply keeps_step (modFloor_keeps _ _ _)
      | with_reducible apply keeps_step (setEvent_keeps _ _)
      | with_reducible refine keeps_foldl (fun _ _ => ?_) ?_
      | with_reducible apply keeps_id
      | split
      | decide

theorem finishTest_keeps (f : Nat) (s : State) : s.keepsAllBut [.floors, .loop, .links] (finishTest f s) := by
  unfold finishTest
  try dsimp only
  repeat'
    first
      | with_reducible exact keeps_refl _ _
      | with_reducible apply keeps_step (setMode_keeps _ _ _)
      | with_reducible refine keeps_foldl (fun _ _ => ?_) ?_
      | with_reducible apply keeps_id
      | split
      | decide

theorem freeSlot_keeps (i : Nat) (s : State) : s.keepsAllBut [.shutters, .analog] (freeSlot i s) := by
  unfold freeSlot
  try dsimp only
  repeat'
    first
      | with_reducible exact keeps_refl _ _
      | with_reducible apply keeps_step (modChan_keeps _ _ _)
      | with_reducible apply keeps_step (modShutters_keeps _ _)
      | with_reducible refine keeps_foldl (fun _ _ => ?_) ?_
      | with_reducible apply keeps_id
      | split
      | decide

theorem writeShutter_keeps (i : Nat) (sh : Shutter) (s : State) : s.keepsAllBut [.loop] (writeShutter i sh s) := by
  unfold writeShutter
  try dsimp only
  repeat'
    first
      | with_reducible exact keeps_refl _ _
      | with_reducible apply keeps_step (writePoint_keeps _ _ _)
      | with_reducible refine keeps_foldl (fun _ _ => ?_) ?_
      | with_reducible apply keeps_id
      | split
      | decide

theorem putShutter_keeps (i : Nat) (sh : Shutter) (s : State) : s.keepsAllBut [.floors, .faults, .shutters, .loop, .analog, .links] (putShutter i sh s) := by
  unfold putShutter
  try dsimp only
  repeat'
    first
      | with_reducible exact keeps_refl _ _
      | with_reducible apply keeps_step (writeShutter_keeps _ _ _)
      | with_reducible apply keeps_step (freeSlot_keeps _ _)
      | with_reducible apply keeps_step (finishTest_keeps _ _)
      | with_reducible apply keeps_step (endFault_keeps _ _ _)
      | with_reducible apply keeps_step (setEventIf_keeps _ _ _)
      | with_reducible apply keeps_step (modShutters_keeps _ _)
      | with_reducible refine keeps_foldl (fun _ _ => ?_) ?_
      | with_reducible apply keeps_id
      | split
      | decide

theorem changeShutter_keeps (i : Nat) (g : Shutter → Shutter) (s : State) : s.keepsAllBut [.floors, .faults, .shutters, .loop, .analog, .links] (changeShutter i g s) := by
  unfold changeShutter
  try dsimp only
  repeat'
    first
      | with_reducible exact keeps_refl _ _
      | with_reducible apply keeps_step (putShutter_keeps _ _ _)
      | with_reducible refine keeps_foldl (fun _ _ => ?_) ?_
      | with_reducible apply keeps_id
      | split
      | decide

theorem enterDropping_keeps (i : Nat) (s : State) : s.keepsAllBut [.floors, .faults, .shutters, .loop, .analog, .links] (enterDropping i s) := by
  unfold enterDropping
  try dsimp only
  repeat'
    first
      | with_reducible exact keeps_refl _ _
      | with_reducible apply keeps_step (changeShutter_keeps _ _ _)
      | with_reducible refine keeps_foldl (fun _ _ => ?_) ?_
      | with_reducible apply keeps_id
      | split
      | decide

theorem dropFromOpen_keeps (i : Nat) (s : State) : s.keepsAllBut [.floors, .faults, .shutters, .loop, .analog, .links] (dropFromOpen i s) := by
  unfold dropFromOpen
  try dsimp only
  repeat'
    first
      | with_reducible exact keeps_refl _ _
      | with_reducible apply keeps_step (enterDropping_keeps _ _)
      | with_reducible apply keeps_step (changeShutter_keeps _ _ _)
      | with_reducible refine keeps_foldl (fun _ _ => ?_) ?_
      | with_reducible apply keeps_id
      | split
      | decide

theorem dropShutter_keeps (i : Nat) (s : State) : s.keepsAllBut [.floors, .faults, .shutters, .loop, .analog, .links] (dropShutter i s) := by
  unfold dropShutter
  try dsimp only
  repeat'
    first
      | with_reducible exact keeps_refl _ _
      | with_reducible apply keeps_step (dropFromOpen_keeps _ _)
      | with_reducible apply keeps_step (changeShutter_keeps _ _ _)
      | with_reducible refine keeps_foldl (fun _ _ => ?_) ?_
      | with_reducible apply keeps_id
      | split
      | decide

theorem endTravel_keeps (down up : Bool) (i : Nat) (s : State) : s.keepsAllBut [.floors, .faults, .shutters, .loop, .analog, .links] (endTravel down up i s) := by
  unfold endTravel
  try dsimp only
  repeat'
    first
      | with_reducible exact keeps_refl _ _
      | with_reducible apply keeps_step (changeShutter_keeps _ _ _)
      | with_reducible refine keeps_foldl (fun _ _ => ?_) ?_
      | with_reducible apply keeps_id
      | split
      | decide

theorem travelDone_keeps (i : Nat) (s : State) : s.keepsAllBut [.floors, .faults, .shutters, .loop, .analog, .links] (travelDone i s) :=
  endTravel_keeps _ _ i s

theorem travelDoneAtGrant_keeps (i : Nat) (s : State) :
    s.keepsAllBut [.floors, .faults, .shutters, .loop, .analog, .links] (travelDoneAtGrant i s) :=
  endTravel_keeps _ _ i s

theorem grantSlot_keeps (k : Nat) (i : Nat) (s : State) : s.keepsAllBut [.floors, .faults, .shutters, .loop, .analog, .links] (grantSlot k i s) := by
  unfold grantSlot
  try dsimp only
  repeat'
    first
      | with_reducible exact keeps_refl _ _
      | with_reducible apply keeps_step (travelDoneAtGrant_keeps _ _)
      | with_reducible apply keeps_step (changeShutter_keeps _ _ _)
      | with_reducible apply keeps_step (modChan_keeps _ _ _)
      | with_reducible apply keeps_step (modShutters_keeps _ _)
      | with_reducible refine keeps_foldl (fun _ _ => ?_) ?_
      | with_reducible apply keeps_id
      | split
      | decide

theorem arbiterLoop_keeps (n : Nat) (s : State) : s.keepsAllBut [.floors, .faults, .shutters, .loop, .analog, .links] (arbiterLoop n s) := by
  induction n generalizing s with
  | zero => exact keeps_refl _ _
  | succ n ih =>
    unfold arbiterLoop
    split
    · exact keeps_step (ih _) (by decide) (keeps_mono (grantSlot_keeps _ _ _) (by decide))
    · exact keeps_refl _ _

theorem arbiter_keeps (s : State) : s.keepsAllBut [.floors, .faults, .shutters, .loop, .analog, .links] (arbiter s) := by
  unfold arbiter
  try dsimp only
  repeat'
    first
      | with_reducible exact keeps_refl _ _
      | with_reducible apply keeps_step (arbiterLoop_keeps _ _)
      | with_reducible refine keeps_foldl (fun _ _ => ?_) ?_
      | with_reducible apply keeps_id
      | split
      | decide

theorem dropShutters_keeps (is : List Nat) (s : State) : s.keepsAllBut [.floors, .faults, .shutters, .loop, .analog, .links] (dropShutters is s) := by
  unfold dropShutters
  try dsimp only
  repeat'
    first
      | with_reducible exact keeps_refl _ _
      | with_reducible apply keeps_step (arbiter_keeps _)
      | with_reducible apply keeps_step (dropShutter_keeps _ _)
      | with_reducible refine keeps_foldl (fun _ _ => ?_) ?_
      | with_reducible apply keeps_id
      | split
      | decide

theorem fireDropShutter_keeps (s : State) (i : Nat) : s.keepsAllBut [.floors, .faults, .shutters, .loop, .analog, .links] (fireDropShutter s i) := by
  unfold fireDropShutter
  try dsimp only
  repeat'
    first
      | with_reducible exact keeps_refl _ _
      | with_reducible apply keeps_step (dropShutter_keeps _ _)
      | with_reducible apply keeps_step (changeShutter_keeps _ _ _)
      | with_reducible refine keeps_foldl (fun _ _ => ?_) ?_
      | with_reducible apply keeps_id
      | split
      | decide

theorem waitToLower_keeps (i : Nat) (s : State) : s.keepsAllBut [.floors, .faults, .shutters, .loop, .analog, .links] (waitToLower i s) := by
  unfold waitToLower
  try dsimp only
  repeat'
    first
      | with_reducible exact keeps_refl _ _
      | with_reducible apply keeps_step (changeShutter_keeps _ _ _)
      | with_reducible refine keeps_foldl (fun _ _ => ?_) ?_
      | with_reducible apply keeps_id
      | split
      | decide

theorem lowerShutter_keeps (s : State) (i : Nat) : s.keepsAllBut [.floors, .faults, .shutters, .loop, .analog, .links] (lowerShutter s i) := by
  unfold lowerShutter
  try dsimp only
  repeat'
    first
      | with_reducible exact keeps_refl _ _
      | with_reducible apply keeps_step (waitToLower_keeps _ _)
      | with_reducible apply keeps_step (changeShutter_keeps _ _ _)
      | with_reducible refine keeps_foldl (fun _ _ => ?_) ?_
      | with_reducible apply keeps_id
      | split
      | decide

theorem lowerFloor_keeps (f : Nat) (s : State) : s.keepsAllBut [.floors, .faults, .shutters, .loop, .analog, .links] (lowerFloor f s) := by
  unfold lowerFloor
  try dsimp only
  repeat'
    first
      | with_reducible exact keeps_refl _ _
      | with_reducible apply keeps_step (lowerShutter_keeps _ _)
      | with_reducible apply keeps_step (arbiter_keeps _)
      | with_reducible apply keeps_step (finishTest_keeps _ _)
      | with_reducible refine keeps_foldl (fun _ _ => ?_) ?_
      | with_reducible apply keeps_id
      | split
      | decide

theorem raiseShutter_keeps (s : State) (i : Nat) : s.keepsAllBut [.floors, .faults, .shutters, .loop, .analog, .links] (raiseShutter s i) := by
  unfold raiseShutter
  try dsimp only
  repeat'
    first
      | with_reducible exact keeps_refl _ _
      | with_reducible apply keeps_step (changeShutter_keeps _ _ _)
      | with_reducible refine keeps_foldl (fun _ _ => ?_) ?_
      | with_reducible apply keeps_id
      | split
      | decide

theorem floorBackToClosing_keeps (f : Nat) (s : State) : s.keepsAllBut [.floors, .loop, .links] (floorBackToClosing f s) := by
  unfold floorBackToClosing
  try dsimp only
  repeat'
    first
      | with_reducible exact keeps_refl _ _
      | with_reducible apply keeps_step (finishTest_keeps _ _)
      | with_reducible apply keeps_step (setMode_keeps _ _ _)
      | with_reducible refine keeps_foldl (fun _ _ => ?_) ?_
      | with_reducible apply keeps_id
      | split
      | decide

theorem conflictEnds_keeps (i : Nat) (s : State) : s.keepsAllBut [.faults, .links] (conflictEnds i s) := by
  unfold conflictEnds
  try dsimp only
  repeat'
    first
      | with_reducible exact keeps_refl _ _
      | with_reducible apply keeps_step (endFault_keeps _ _ _)
      | with_reducible refine keeps_foldl (fun _ _ => ?_) ?_
      | with_reducible apply keeps_id
      | split
      | decide

theorem settleShutter_keeps (i : Nat) (s : State) : s.keepsAllBut [.floors, .faults, .shutters, .bells, .loop, .analog, .links] (settleShutter i s) := by
  unfold settleShutter
  try dsimp only
  repeat'
    first
      | with_reducible exact keeps_refl _ _
      | with_reducible apply keeps_step (floorBackToClosing_keeps _ _)
      | with_reducible apply keeps_step (waitToLower_keeps _ _)
      | with_reducible apply keeps_step (dropFromOpen_keeps _ _)
      | with_reducible apply keeps_step (enterDropping_keeps _ _)
      | with_reducible apply keeps_step (changeShutter_keeps _ _ _)
      | with_reducible apply keeps_step (raiseFault_keeps _ _ _)
      | with_reducible refine keeps_foldl (fun _ _ => ?_) ?_
      | with_reducible apply keeps_id
      | split
      | decide

theorem resolveShutter_keeps (i : Nat) (s : State) : s.keepsAllBut [.floors, .faults, .shutters, .bells, .loop, .analog, .links] (resolveShutter i s) := by
  unfold resolveShutter
  try dsimp only
  repeat'
    first
      | with_reducible exact keeps_refl _ _
      | with_reducible apply keeps_step (settleShutter_keeps _ _)
      | with_reducible apply keeps_step (conflictEnds_keeps _ _)
      | with_reducible refine keeps_foldl (fun _ _ => ?_) ?_
      | with_reducible apply keeps_id
      | split
      | decide

theorem driftShutter_keeps (i : Nat) (s : State) : s.keepsAllBut [.floors, .faults, .shutters, .bells, .loop, .analog, .links] (driftShutter i s) := by
  unfold driftShutter
  try dsimp only
  repeat'
    first
      | with_reducible exact keeps_refl _ _
      | with_reducible apply keeps_step (enterDropping_keeps _ _)
      | with_reducible apply keeps_step (raiseFault_keeps _ _ _)
      | with_reducible refine keeps_foldl (fun _ _ => ?_) ?_
      | with_reducible apply keeps_id
      | split
      | decide

theorem limitConflict_keeps (i : Nat) (s : State) : s.keepsAllBut [.floors, .faults, .shutters, .bells, .loop, .analog, .links] (limitConflict i s) := by
  unfold limitConflict
  try dsimp only
  repeat'
    first
      | with_reducible exact keeps_refl _ _
      | with_reducible apply keeps_step (changeShutter_keeps _ _ _)
      | with_reducible apply keeps_step (raiseFault_keeps _ _ _)
      | with_reducible refine keeps_foldl (fun _ _ => ?_) ?_
      | with_reducible apply keeps_id
      | split
      | decide

theorem limitLost_keeps (i : Nat) (o : Bool) (c : Bool) (s : State) : s.keepsAllBut [.floors, .faults, .shutters, .bells, .loop, .analog, .links] (limitLost i o c s) := by
  unfold limitLost
  try dsimp only
  repeat'
    first
      | with_reducible exact keeps_refl _ _
      | with_reducible apply keeps_step (driftShutter_keeps _ _)
      | with_reducible apply keeps_step (resolveShutter_keeps _ _)
      | with_reducible apply keeps_step (changeShutter_keeps _ _ _)
      | with_reducible refine keeps_foldl (fun _ _ => ?_) ?_
      | with_reducible apply keeps_id
      | split
      | decide

theorem conflictOver_keeps (i : Nat) (s : State) : s.keepsAllBut [.floors, .faults, .shutters, .bells, .loop, .analog, .links] (conflictOver i s) := by
  unfold conflictOver
  try dsimp only
  repeat'
    first
      | with_reducible exact keeps_refl _ _
      | with_reducible apply keeps_step (limitLost_keeps _ _ _ _)
      | with_reducible apply keeps_step (resolveShutter_keeps _ _)
      | with_reducible apply keeps_step (conflictEnds_keeps _ _)
      | with_reducible refine keeps_foldl (fun _ _ => ?_) ?_
      | with_reducible apply keeps_id
      | split
      | decide

theorem limitChange_keeps (i : Nat) (o : Bool) (c : Bool) (s : State) : s.keepsAllBut [.floors, .faults, .shutters, .bells, .loop, .analog, .links] (limitChange i o c s) := by
  unfold limitChange
  try dsimp only
  repeat'
    first
      | with_reducible exact keeps_refl _ _
      | with_reducible apply keeps_step (conflictOver_keeps _ _)
      | with_reducible apply keeps_step (limitLost_keeps _ _ _ _)
      | with_reducible apply keeps_step (limitConflict_keeps _ _)
      | with_reducible apply keeps_step (resolveShutter_keeps _ _)
      | with_reducible apply keeps_step (travelDone_keeps _ _)
      | with_reducible apply keeps_step (changeShutter_keeps _ _ _)
      | with_reducible refine keeps_foldl (fun _ _ => ?_) ?_
      | with_reducible apply keeps_id
      | split
      | decide

theorem jamShutter_keeps (i : Nat) (s : State) : s.keepsAllBut [.floors, .faults, .shutters, .bells, .loop, .analog, .links] (jamShutter i s) := by
  unfold jamShutter
  try dsimp only
  repeat'
    first
      | with_reducible exact keeps_refl _ _
      | with_reducible apply keeps_step (arbiter_keeps _)
      | with_reducible apply keeps_step (changeShutter_keeps _ _ _)
      | with_reducible apply keeps_step (raiseFault_keeps _ _ _)
      | with_reducible refine keeps_foldl (fun _ _ => ?_) ?_
      | with_reducible apply keeps_id
      | split
      | decide

theorem releasePendingHold_keeps (s : State) (i : Nat) : s.keepsAllBut [.floors, .faults, .shutters, .loop, .analog, .links] (releasePendingHold s i) := by
  unfold releasePendingHold
  try dsimp only
  repeat'
    first
      | with_reducible exact keeps_refl _ _
      | with_reducible apply keeps_step (changeShutter_keeps _ _ _)
      | with_reducible refine keeps_foldl (fun _ _ => ?_) ?_
      | with_reducible apply keeps_id
      | split
      | decide

theorem leaveWaitStill_keeps (s : State) (i : Nat) : s.keepsAllBut [.floors, .faults, .shutters, .loop, .analog, .links] (leaveWaitStill s i) := by
  unfold leaveWaitStill
  try dsimp only
  repeat'
    first
      | with_reducible exact keeps_refl _ _
      | with_reducible apply keeps_step (enterDropping_keeps _ _)
      | with_reducible apply keeps_step (changeShutter_keeps _ _ _)
      | with_reducible refine keeps_foldl (fun _ _ => ?_) ?_
      | with_reducible apply keeps_id
      | split
      | decide

theorem shuttersStill_keeps (s : State) : s.keepsAllBut [.floors, .faults, .shutters, .loop, .analog, .links] (shuttersStill s) := by
  unfold shuttersStill
  try dsimp only
  repeat'
    first
      | with_reducible exact keeps_refl _ _
      | with_reducible apply keeps_step (leaveWaitStill_keeps _ _)
      | with_reducible apply keeps_step (releasePendingHold_keeps _ _)
      | with_reducible apply keeps_step (arbiter_keeps _)
      | with_reducible refine keeps_foldl (fun _ _ => ?_) ?_
      | with_reducible apply keeps_id
      | split
      | decide

theorem stopTravel_keeps (s : State) (i : Nat) : s.keepsAllBut [.floors, .faults, .shutters, .loop, .analog, .links] (stopTravel s i) := by
  unfold stopTravel
  try dsimp only
  repeat'
    first
      | with_reducible exact keeps_refl _ _
      | with_reducible apply keeps_step (changeShutter_keeps _ _ _)
      | with_reducible refine keeps_foldl (fun _ _ => ?_) ?_
      | with_reducible apply keeps_id
      | split
      | decide

theorem shuttersMoving_keeps (s : State) : s.keepsAllBut [.floors, .faults, .shutters, .loop, .analog, .links] (shuttersMoving s) := by
  unfold shuttersMoving
  try dsimp only
  repeat'
    first
      | with_reducible exact keeps_refl _ _
      | with_reducible apply keeps_step (stopTravel_keeps _ _)
      | with_reducible apply keeps_step (arbiter_keeps _)
      | with_reducible refine keeps_foldl (fun _ _ => ?_) ?_
      | with_reducible apply keeps_id
      | split
      | decide

theorem shuttersSupplyLow_keeps (s : State) : s.keepsAllBut [.floors, .faults, .shutters, .loop, .analog, .links] (shuttersSupplyLow s) := by
  unfold shuttersSupplyLow
  try dsimp only
  repeat'
    first
      | with_reducible exact keeps_refl _ _
      | with_reducible apply keeps_step (stopTravel_keeps _ _)
      | with_reducible apply keeps_step (arbiter_keeps _)
      | with_reducible refine keeps_foldl (fun _ _ => ?_) ?_
      | with_reducible apply keeps_id
      | split
      | decide

theorem loopFaultShutter_keeps (s : State) (i : Nat) : s.keepsAllBut [.floors, .faults, .shutters, .loop, .analog, .links] (loopFaultShutter s i) := by
  unfold loopFaultShutter
  try dsimp only
  repeat'
    first
      | with_reducible exact keeps_refl _ _
      | with_reducible apply keeps_step (changeShutter_keeps _ _ _)
      | with_reducible refine keeps_foldl (fun _ _ => ?_) ?_
      | with_reducible apply keeps_id
      | split
      | decide

theorem shuttersLoopFault_keeps (s : State) : s.keepsAllBut [.floors, .faults, .shutters, .loop, .analog, .links] (shuttersLoopFault s) := by
  unfold shuttersLoopFault
  try dsimp only
  repeat'
    first
      | with_reducible exact keeps_refl _ _
      | with_reducible apply keeps_step (loopFaultShutter_keeps _ _)
      | with_reducible refine keeps_foldl (fun _ _ => ?_) ?_
      | with_reducible apply keeps_id
      | split
      | decide

theorem loopReturnShutter_keeps (s : State) (i : Nat) : s.keepsAllBut [.floors, .faults, .shutters, .bells, .loop, .analog, .links] (loopReturnShutter s i) := by
  unfold loopReturnShutter
  try dsimp only
  repeat'
    first
      | with_reducible exact keeps_refl _ _
      | with_reducible apply keeps_step (resolveShutter_keeps _ _)
      | with_reducible apply keeps_step (conflictEnds_keeps _ _)
      | with_reducible apply keeps_step (changeShutter_keeps _ _ _)
      | with_reducible refine keeps_foldl (fun _ _ => ?_) ?_
      | with_reducible apply keeps_id
      | split
      | decide

theorem shuttersLoopReturn_keeps (s : State) : s.keepsAllBut [.floors, .faults, .shutters, .bells, .loop, .analog, .links] (shuttersLoopReturn s) := by
  unfold shuttersLoopReturn
  try dsimp only
  repeat'
    first
      | with_reducible exact keeps_refl _ _
      | with_reducible apply keeps_step (loopReturnShutter_keeps _ _)
      | with_reducible apply keeps_step (arbiter_keeps _)
      | with_reducible refine keeps_foldl (fun _ _ => ?_) ?_
      | with_reducible apply keeps_id
      | split
      | decide

theorem enterState_keeps (st : DriveState) (s : State) : s.keepsAllBut [.floors, .drive, .loop, .links] (enterState st s) := by
  unfold enterState
  try dsimp only
  repeat'
    first
      | with_reducible exact keeps_refl _ _
      | with_reducible apply keeps_step (reboard_keeps _)
      | with_reducible apply keeps_step (setEventIf_keeps _ _ _)
      | with_reducible apply keeps_step (setEvent_keeps _ _)
      | with_reducible apply keeps_step (modDrive_keeps _ _)
      | with_reducible refine keeps_foldl (fun _ _ => ?_) ?_
      | with_reducible apply keeps_id
      | split
      | decide

theorem endWarning_keeps (s : State) : s.keepsAllBut [.floors, .drive, .bells, .loop, .links] (endWarning s) := by
  unfold endWarning
  try dsimp only
  repeat'
    first
      | with_reducible exact keeps_refl _ _
      | with_reducible apply keeps_step (enterState_keeps _ _)
      | with_reducible apply keeps_step (lineWithdraw_keeps _ _)
      | with_reducible apply keeps_step (modDrive_keeps _ _)
      | with_reducible refine keeps_foldl (fun _ _ => ?_) ?_
      | with_reducible apply keeps_id
      | split
      | decide

theorem warningAbandon_keeps (s : State) : s.keepsAllBut [.floors, .drive, .bells, .loop, .links] (warningAbandon s) := by
  unfold warningAbandon
  try dsimp only
  repeat'
    first
      | with_reducible exact keeps_refl _ _
      | with_reducible apply keeps_step (endWarning_keeps _)
      | with_reducible refine keeps_foldl (fun _ _ => ?_) ?_
      | with_reducible apply keeps_id
      | split
      | decide

theorem releaseBrake_keeps (s : State) : s.keepsAllBut [.floors, .faults, .tracker, .drive, .shutters, .loop, .analog, .links] (releaseBrake s) := by
  unfold releaseBrake
  try dsimp only
  repeat'
    first
      | with_reducible exact keeps_refl _ _
      | with_reducible apply keeps_step (shuttersMoving_keeps _)
      | with_reducible apply keeps_step (modChan_keeps _ _ _)
      | with_reducible apply keeps_step (modDrive_keeps _ _)
      | with_reducible apply keeps_step (modTracker_keeps _ _)
      | with_reducible refine keeps_foldl (fun _ _ => ?_) ?_
      | with_reducible apply keeps_id
      | split
      | decide

theorem leaveBrake_keeps (s : State) : s.keepsAllBut [.floors, .drive, .loop, .links] (leaveBrake s) := by
  unfold leaveBrake
  try dsimp only
  repeat'
    first
      | with_reducible exact keeps_refl _ _
      | with_reducible apply keeps_step (enterState_keeps _ _)
      | with_reducible apply keeps_step (writePoint_keeps _ _ _)
      | with_reducible apply keeps_step (modDrive_keeps _ _)
      | with_reducible refine keeps_foldl (fun _ _ => ?_) ?_
      | with_reducible apply keeps_id
      | split
      | decide

theorem driveStill_keeps (s : State) : s.keepsAllBut [.floors, .drive, .loop, .links] (driveStill s) := by
  unfold driveStill
  try dsimp only
  repeat'
    first
      | with_reducible exact keeps_refl _ _
      | with_reducible apply keeps_step (leaveBrake_keeps _)
      | with_reducible apply keeps_step (enterState_keeps _ _)
      | with_reducible apply keeps_step (modDrive_keeps _ _)
      | with_reducible refine keeps_foldl (fun _ _ => ?_) ?_
      | with_reducible apply keeps_id
      | split
      | decide

theorem chainStill_keeps (s : State) : s.keepsAllBut [.floors, .faults, .tracker, .drive, .shutters, .bells, .loop, .analog, .links] (chainStill s) := by
  unfold chainStill
  try dsimp only
  repeat'
    first
      | with_reducible exact keeps_refl _ _
      | with_reducible apply keeps_step (driveStill_keeps _)
      | with_reducible apply keeps_step (warningAbandon_keeps _)
      | with_reducible apply keeps_step (shuttersStill_keeps _)
      | with_reducible apply keeps_step (modTracker_keeps _ _)
      | with_reducible refine keeps_foldl (fun _ _ => ?_) ?_
      | with_reducible apply keeps_id
      | split
      | decide

theorem applyBrake_keeps (s : State) : s.keepsAllBut [.floors, .faults, .tracker, .drive, .shutters, .bells, .loop, .analog, .links] (applyBrake s) := by
  unfold applyBrake
  try dsimp only
  repeat'
    first
      | with_reducible exact keeps_refl _ _
      | with_reducible apply keeps_step (chainStill_keeps _)
      | with_reducible apply keeps_step (driveStill_keeps _)
      | with_reducible apply keeps_step (modChan_keeps _ _ _)
      | with_reducible apply keeps_step (modDrive_keeps _ _)
      | with_reducible refine keeps_foldl (fun _ _ => ?_) ?_
      | with_reducible apply keeps_id
      | split
      | decide

theorem enterBrake_keeps (x : Rest) (c : StopCause) (s : State) : s.keepsAllBut [.floors, .faults, .tracker, .drive, .shutters, .bells, .loop, .analog, .links] (enterBrake x c s) := by
  unfold enterBrake
  try dsimp only
  repeat'
    first
      | with_reducible exact keeps_refl _ _
      | with_reducible apply keeps_step (applyBrake_keeps _)
      | with_reducible apply keeps_step (enterState_keeps _ _)
      | with_reducible apply keeps_step (modDrive_keeps _ _)
      | with_reducible refine keeps_foldl (fun _ _ => ?_) ?_
      | with_reducible apply keeps_id
      | split
      | decide

theorem brakingFault_keeps (k : FaultKind) (s : State) : s.keepsAllBut [.floors, .faults, .tracker, .drive, .shutters, .bells, .loop, .analog, .links] (brakingFault k s) := by
  unfold brakingFault
  try dsimp only
  repeat'
    first
      | with_reducible exact keeps_refl _ _
      | with_reducible apply keeps_step (enterBrake_keeps _ _ _)
      | with_reducible apply keeps_step (modDrive_keeps _ _)
      | with_reducible refine keeps_foldl (fun _ _ => ?_) ?_
      | with_reducible apply keeps_id
      | split
      | decide

theorem raiseAndBrake_keeps (k : FaultKind) (s : State) : s.keepsAllBut [.floors, .faults, .tracker, .drive, .shutters, .bells, .loop, .analog, .links] (raiseAndBrake k s) := by
  unfold raiseAndBrake
  try dsimp only
  repeat'
    first
      | with_reducible exact keeps_refl _ _
      | with_reducible apply keeps_step (brakingFault_keeps _ _)
      | with_reducible apply keeps_step (raiseFault_keeps _ _ _)
      | with_reducible refine keeps_foldl (fun _ _ => ?_) ?_
      | with_reducible apply keeps_id
      | split
      | decide

theorem driveDeparture_keeps (s : State) : s.keepsAllBut [.floors, .faults, .tracker, .drive, .shutters, .bells, .loop, .analog, .links] (driveDeparture s) := by
  unfold driveDeparture
  try dsimp only
  repeat'
    first
      | with_reducible exact keeps_refl _ _
      | with_reducible apply keeps_step (raiseAndBrake_keeps _ _)
      | with_reducible apply keeps_step (warningAbandon_keeps _)
      | with_reducible refine keeps_foldl (fun _ _ => ?_) ?_
      | with_reducible apply keeps_id
      | split
      | decide

theorem takeDepartures_keeps (before : State) (s : State) : s.keepsAllBut [.floors, .faults, .tracker, .drive, .shutters, .bells, .loop, .analog, .links] (takeDepartures before s) := by
  unfold takeDepartures
  try dsimp only
  repeat'
    first
      | with_reducible exact keeps_refl _ _
      | with_reducible apply keeps_step (driveDeparture_keeps _)
      | with_reducible refine keeps_foldl (fun _ _ => ?_) ?_
      | with_reducible apply keeps_id
      | split
      | decide

theorem evalProfile_keeps (s : State) : s.keepsAllBut [.drive] (evalProfile s) := by
  unfold evalProfile
  try dsimp only
  repeat'
    first
      | with_reducible exact keeps_refl _ _
      | with_reducible apply keeps_step (modDrive_keeps _ _)
      | with_reducible refine keeps_foldl (fun _ _ => ?_) ?_
      | with_reducible apply keeps_id
      | split
      | decide

theorem levelArrived_keeps (s : State) : s.keepsAllBut [.floors, .faults, .tracker, .drive, .shutters, .bells, .loop, .analog, .links] (levelArrived s) := by
  unfold levelArrived
  try dsimp only
  repeat'
    first
      | with_reducible exact keeps_refl _ _
      | with_reducible apply keeps_step (applyBrake_keeps _)
      | with_reducible apply keeps_step (modDrive_keeps _ _)
      | with_reducible refine keeps_foldl (fun _ _ => ?_) ?_
      | with_reducible apply keeps_id
      | split
      | decide

theorem setRemaining_keeps (r : Nat) (s : State) : s.keepsAllBut [.floors, .faults, .tracker, .drive, .shutters, .bells, .loop, .analog, .links] (setRemaining r s) := by
  unfold setRemaining
  try dsimp only
  repeat'
    first
      | with_reducible exact keeps_refl _ _
      | with_reducible apply keeps_step (levelArrived_keeps _)
      | with_reducible apply keeps_step (evalProfile_keeps _)
      | with_reducible apply keeps_step (modDrive_keeps _ _)
      | with_reducible refine keeps_foldl (fun _ _ => ?_) ?_
      | with_reducible apply keeps_id
      | split
      | decide

theorem enterLevel_keeps (c : StopCause) (deadline : Option Nat) (s : State) : s.keepsAllBut [.floors, .faults, .tracker, .drive, .shutters, .bells, .loop, .analog, .links] (enterLevel c deadline s) := by
  unfold enterLevel
  try dsimp only
  repeat'
    first
      | with_reducible exact keeps_refl _ _
      | with_reducible apply keeps_step (levelArrived_keeps _)
      | with_reducible apply keeps_step (evalProfile_keeps _)
      | with_reducible apply keeps_step (enterState_keeps _ _)
      | with_reducible apply keeps_step (modDrive_keeps _ _)
      | with_reducible refine keeps_foldl (fun _ _ => ?_) ?_
      | with_reducible apply keeps_id
      | split
      | decide

theorem enterAccel_keeps (s : State) : s.keepsAllBut [.floors, .drive, .loop, .links] (enterAccel s) := by
  unfold enterAccel
  try dsimp only
  repeat'
    first
      | with_reducible exact keeps_refl _ _
      | with_reducible apply keeps_step (enterState_keeps _ _)
      | with_reducible apply keeps_step (modDrive_keeps _ _)
      | with_reducible refine keeps_foldl (fun _ _ => ?_) ?_
      | with_reducible apply keeps_id
      | split
      | decide

theorem warningComplete_keeps (s : State) : s.keepsAllBut [.floors, .faults, .tracker, .drive, .shutters, .loop, .analog, .links] (warningComplete s) := by
  unfold warningComplete
  try dsimp only
  repeat'
    first
      | with_reducible exact keeps_refl _ _
      | with_reducible apply keeps_step (enterAccel_keeps _)
      | with_reducible apply keeps_step (releaseBrake_keeps _)
      | with_reducible apply keeps_step (enterState_keeps _ _)
      | with_reducible apply keeps_step (modDrive_keeps _ _)
      | with_reducible refine keeps_foldl (fun _ _ => ?_) ?_
      | with_reducible apply keeps_id
      | split
      | decide

theorem warningDone_keeps (n : Nat) (s : State) : s.keepsAllBut [.floors, .faults, .tracker, .drive, .shutters, .loop, .analog, .links] (warningDone n s) := by
  unfold warningDone
  try dsimp only
  repeat'
    first
      | with_reducible exact keeps_refl _ _
      | with_reducible apply keeps_step (warningComplete_keeps _)
      | with_reducible apply keeps_step (modDrive_keeps _ _)
      | with_reducible refine keeps_foldl (fun _ _ => ?_) ?_
      | with_reducible apply keeps_id
      | split
      | decide

theorem askWarning_keeps (s : State) (n : Nat) : s.keepsAllBut [.floors, .faults, .tracker, .drive, .shutters, .bells, .loop, .analog, .links] (askWarning s n) := by
  unfold askWarning
  try dsimp only
  repeat'
    first
      | with_reducible exact keeps_refl _ _
      | with_reducible apply keeps_step (warningDone_keeps _ _)
      | with_reducible apply keeps_step (placeReq_keeps _ _ _)
      | with_reducible refine keeps_foldl (fun _ _ => ?_) ?_
      | with_reducible apply keeps_id
      | split
      | decide

theorem beginWarning_keeps (s : State) : s.keepsAllBut [.floors, .faults, .tracker, .drive, .shutters, .bells, .loop, .analog, .links] (beginWarning s) := by
  unfold beginWarning
  try dsimp only
  repeat'
    first
      | with_reducible exact keeps_refl _ _
      | with_reducible apply keeps_step (askWarning_keeps _ _)
      | with_reducible apply keeps_step (enterState_keeps _ _)
      | with_reducible apply keeps_step (modDrive_keeps _ _)
      | with_reducible refine keeps_foldl (fun _ _ => ?_) ?_
      | with_reducible apply keeps_id
      | split
      | decide

theorem endInching_keeps (s : State) : s.keepsAllBut [.floors, .faults, .tracker, .drive, .shutters, .bells, .loop, .analog, .links] (endInching s) := by
  unfold endInching
  try dsimp only
  repeat'
    first
      | with_reducible exact keeps_refl _ _
      | with_reducible apply keeps_step (enterBrake_keeps _ _ _)
      | with_reducible refine keeps_foldl (fun _ _ => ?_) ?_
      | with_reducible apply keeps_id
      | split
      | decide

theorem closingNotice_keeps (s : State) : s.keepsAllBut [.floors, .faults, .tracker, .drive, .shutters, .bells, .loop, .analog, .links] (closingNotice s) := by
  unfold closingNotice
  try dsimp only
  repeat'
    first
      | with_reducible exact keeps_refl _ _
      | with_reducible apply keeps_step (enterBrake_keeps _ _ _)
      | with_reducible apply keeps_step (endWarning_keeps _)
      | with_reducible apply keeps_step (enterState_keeps _ _)
      | with_reducible apply keeps_step (modDrive_keeps _ _)
      | with_reducible refine keeps_foldl (fun _ _ => ?_) ?_
      | with_reducible apply keeps_id
      | split
      | decide

theorem driveFire_keeps (s : State) : s.keepsAllBut [.floors, .faults, .tracker, .drive, .shutters, .bells, .loop, .analog, .links] (driveFire s) := by
  unfold driveFire
  try dsimp only
  repeat'
    first
      | with_reducible exact keeps_refl _ _
      | with_reducible apply keeps_step (enterLevel_keeps _ _ _)
      | with_reducible apply keeps_step (enterBrake_keeps _ _ _)
      | with_reducible apply keeps_step (endWarning_keeps _)
      | with_reducible apply keeps_step (modDrive_keeps _ _)
      | with_reducible refine keeps_foldl (fun _ _ => ?_) ?_
      | with_reducible apply keeps_id
      | split
      | decide

theorem driveStop_keeps (s : State) : s.keepsAllBut [.floors, .faults, .tracker, .drive, .shutters, .bells, .loop, .analog, .links] (driveStop s) := by
  unfold driveStop
  try dsimp only
  repeat'
    first
      | with_reducible exact keeps_refl _ _
      | with_reducible apply keeps_step (endInching_keeps _)
      | with_reducible apply keeps_step (enterLevel_keeps _ _ _)
      | with_reducible apply keeps_step (enterBrake_keeps _ _ _)
      | with_reducible apply keeps_step (endWarning_keeps _)
      | with_reducible refine keeps_foldl (fun _ _ => ?_) ?_
      | with_reducible apply keeps_id
      | split
      | decide

theorem driveStopNow_keeps (s : State) : s.keepsAllBut [.floors, .faults, .tracker, .drive, .shutters, .bells, .loop, .analog, .links] (driveStopNow s) := by
  unfold driveStopNow
  try dsimp only
  repeat'
    first
      | with_reducible exact keeps_refl _ _
      | with_reducible apply keeps_step (enterBrake_keeps _ _ _)
      | with_reducible apply keeps_step (endWarning_keeps _)
      | with_reducible refine keeps_foldl (fun _ _ => ?_) ?_
      | with_reducible apply keeps_id
      | split
      | decide

theorem driveTrip_keeps (s : State) : s.keepsAllBut [.floors, .faults, .tracker, .drive, .shutters, .bells, .loop, .analog, .links] (driveTrip s) := by
  unfold driveTrip
  try dsimp only
  repeat'
    first
      | with_reducible exact keeps_refl _ _
      | with_reducible apply keeps_step (raiseAndBrake_keeps _ _)
      | with_reducible apply keeps_step (warningAbandon_keeps _)
      | with_reducible apply keeps_step (raiseFault_keeps _ _ _)
      | with_reducible refine keeps_foldl (fun _ _ => ?_) ?_
      | with_reducible apply keeps_id
      | split
      | decide

theorem driveLoopFault_keeps (s : State) : s.keepsAllBut [.floors, .faults, .tracker, .drive, .shutters, .bells, .loop, .analog, .links] (driveLoopFault s) := by
  unfold driveLoopFault
  try dsimp only
  repeat'
    first
      | with_reducible exact keeps_refl _ _
      | with_reducible apply keeps_step (brakingFault_keeps _ _)
      | with_reducible apply keeps_step (warningAbandon_keeps _)
      | with_reducible refine keeps_foldl (fun _ _ => ?_) ?_
      | with_reducible apply keeps_id
      | split
      | decide

theorem driveOverload_keeps (s : State) : s.keepsAllBut [.floors, .faults, .tracker, .drive, .shutters, .bells, .loop, .analog, .links] (driveOverload s) := by
  unfold driveOverload
  try dsimp only
  repeat'
    first
      | with_reducible exact keeps_refl _ _
      | with_reducible apply keeps_step (raiseAndBrake_keeps _ _)
      | with_reducible refine keeps_foldl (fun _ _ => ?_) ?_
      | with_reducible apply keeps_id
      | split
      | decide

theorem beginInch_keeps (origin : Rest) (dir : Direction) (s : State) : s.keepsAllBut [.floors, .drive, .loop, .links] (beginInch origin dir s) := by
  unfold beginInch
  try dsimp only
  repeat'
    first
      | with_reducible exact keeps_refl _ _
      | with_reducible apply keeps_step (enterState_keeps _ _)
      | with_reducible apply keeps_step (writePoint_keeps _ _ _)
      | with_reducible apply keeps_step (modDrive_keeps _ _)
      | with_reducible refine keeps_foldl (fun _ _ => ?_) ?_
      | with_reducible apply keeps_id
      | split
      | decide

theorem inchDelivered_keeps (s : State) : s.keepsAllBut [.floors, .faults, .tracker, .drive, .shutters, .loop, .analog, .links] (inchDelivered s) := by
  unfold inchDelivered
  try dsimp only
  repeat'
    first
      | with_reducible exact keeps_refl _ _
      | with_reducible apply keeps_step (releaseBrake_keeps _)
      | with_reducible apply keeps_step (modDrive_keeps _ _)
      | with_reducible refine keeps_foldl (fun _ _ => ?_) ?_
      | with_reducible apply keeps_id
      | split
      | decide

theorem tickLastrun_keeps (dir : Direction) (s : State) : s.keepsAllBut [.floors, .faults, .tracker, .drive, .shutters, .bells, .loop, .analog, .links] (tickLastrun dir s) := by
  unfold tickLastrun
  try dsimp only
  repeat'
    first
      | with_reducible exact keeps_refl _ _
      | with_reducible apply keeps_step (enterLevel_keeps _ _ _)
      | with_reducible apply keeps_step (modDrive_keeps _ _)
      | with_reducible refine keeps_foldl (fun _ _ => ?_) ?_
      | with_reducible apply keeps_id
      | split
      | decide

theorem tickOverrun_keeps (dir : Direction) (v : LevelRec) (s : State) : s.keepsAllBut [.faults, .drive, .bells, .loop, .links] (tickOverrun dir v s) := by
  unfold tickOverrun
  try dsimp only
  repeat'
    first
      | with_reducible exact keeps_refl _ _
      | with_reducible apply keeps_step (raiseFault_keeps _ _ _)
      | with_reducible apply keeps_step (modDrive_keeps _ _)
      | with_reducible refine keeps_foldl (fun _ _ => ?_) ?_
      | with_reducible apply keeps_id
      | split
      | decide

theorem driveTick_keeps (dir : Direction) (s : State) : s.keepsAllBut [.floors, .faults, .tracker, .drive, .shutters, .bells, .loop, .analog, .links] (driveTick dir s) := by
  unfold driveTick
  try dsimp only
  repeat'
    first
      | with_reducible exact keeps_refl _ _
      | with_reducible apply keeps_step (tickOverrun_keeps _ _ _)
      | with_reducible apply keeps_step (tickLastrun_keeps _ _)
      | with_reducible apply keeps_step (setRemaining_keeps _ _)
      | with_reducible refine keeps_foldl (fun _ _ => ?_) ?_
      | with_reducible apply keeps_id
      | split
      | decide

theorem driveCorrection_keeps (d : Int) (s : State) : s.keepsAllBut [.floors, .faults, .tracker, .drive, .shutters, .bells, .loop, .analog, .links] (driveCorrection d s) := by
  unfold driveCorrection
  try dsimp only
  repeat'
    first
      | with_reducible exact keeps_refl _ _
      | with_reducible apply keeps_step (setRemaining_keeps _ _)
      | with_reducible refine keeps_foldl (fun _ _ => ?_) ?_
      | with_reducible apply keeps_id
      | split
      | decide

theorem judgeWindow_keeps (s : State) : s.keepsAllBut [.floors, .faults, .tracker, .drive, .shutters, .bells, .loop, .analog, .links] (judgeWindow s) := by
  unfold judgeWindow
  try dsimp only
  repeat'
    first
      | with_reducible exact keeps_refl _ _
      | with_reducible apply keeps_step (raiseAndBrake_keeps _ _)
      | with_reducible apply keeps_step (modDrive_keeps _ _)
      | with_reducible refine keeps_foldl (fun _ _ => ?_) ?_
      | with_reducible apply keeps_id
      | split
      | decide

theorem modQueue_keeps (f : List QueueEntry → List QueueEntry) (s : State) : s.keepsAllBut [.announce] (State.modQueue f s) :=
  ⟨rfl, fun b => by cases b <;> simp [Block.same]⟩

theorem modPlayout_keeps (f : Playout → Playout) (s : State) : s.keepsAllBut [.announce] (State.modPlayout f s) :=
  ⟨rfl, fun b => by cases b <;> simp [Block.same]⟩

theorem modPort_keeps (f : Port → Port) (s : State) : s.keepsAllBut [.announce] (State.modPort f s) :=
  ⟨rfl, fun b => by cases b <;> simp [Block.same]⟩

theorem modOp_keeps (f : Op → Op) (s : State) : s.keepsAllBut [.store] (State.modOp f s) :=
  ⟨rfl, fun b => by cases b <;> simp [Block.same]⟩

theorem queueClosing_keeps (slot : Nat) (s : State) : s.keepsAllBut [.announce] (queueClosing slot s) := by
  unfold queueClosing
  try dsimp only
  repeat'
    first
      | with_reducible exact keeps_refl _ _
      | with_reducible apply keeps_step (modQueue_keeps _ _)
      | with_reducible refine keeps_foldl (fun _ _ => ?_) ?_
      | with_reducible apply keeps_id
      | split
      | decide

theorem dropClosing_keeps (s : State) : s.keepsAllBut [.announce] (dropClosing s) := by
  unfold dropClosing
  try dsimp only
  repeat'
    first
      | with_reducible exact keeps_refl _ _
      | with_reducible apply keeps_step (modQueue_keeps _ _)
      | with_reducible refine keeps_foldl (fun _ _ => ?_) ?_
      | with_reducible apply keeps_id
      | split
      | decide

theorem beginPlayout_keeps (q : QueueEntry) (s : State) : s.keepsAllBut [.announce, .loop] (beginPlayout q s) := by
  unfold beginPlayout
  try dsimp only
  repeat'
    first
      | with_reducible exact keeps_refl _ _
      | with_reducible apply keeps_step (writePoints_keeps _ _ _)
      | with_reducible apply keeps_step (modAnnounce_keeps _ _)
      | with_reducible refine keeps_foldl (fun _ _ => ?_) ?_
      | with_reducible apply keeps_id
      | split
      | decide

theorem look_keeps (s : State) : s.keepsAllBut [.announce, .loop] (look s) := by
  unfold look
  try dsimp only
  repeat'
    first
      | with_reducible exact keeps_refl _ _
      | with_reducible apply keeps_step (beginPlayout_keeps _ _)
      | with_reducible refine keeps_foldl (fun _ _ => ?_) ?_
      | with_reducible apply keeps_id
      | split
      | decide

theorem portPlay_keeps (n : Nat) (s : State) : s.keepsAllBut [.announce] (portPlay n s) := by
  unfold portPlay
  try dsimp only
  repeat'
    first
      | with_reducible exact keeps_refl _ _
      | with_reducible apply keeps_step (modPort_keeps _ _)
      | with_reducible refine keeps_foldl (fun _ _ => ?_) ?_
      | with_reducible apply keeps_id
      | split
      | decide

theorem portStatus_keeps (s : State) : s.keepsAllBut [.announce] (portStatus s) := by
  unfold portStatus
  try dsimp only
  repeat'
    first
      | with_reducible exact keeps_refl _ _
      | with_reducible apply keeps_step (modPort_keeps _ _)
      | with_reducible refine keeps_foldl (fun _ _ => ?_) ?_
      | with_reducible apply keeps_id
      | split
      | decide

theorem portAbort_keeps (s : State) : s.keepsAllBut [.announce] (portAbort s) := by
  unfold portAbort
  try dsimp only
  repeat'
    first
      | with_reducible exact keeps_refl _ _
      | with_reducible apply keeps_step (modPort_keeps _ _)
      | with_reducible refine keeps_foldl (fun _ _ => ?_) ?_
      | with_reducible apply keeps_id
      | split
      | decide

theorem sendPhrase_keeps (s : State) : s.keepsAllBut [.announce] (sendPhrase s) := by
  unfold sendPhrase
  try dsimp only
  repeat'
    first
      | with_reducible exact keeps_refl _ _
      | with_reducible apply keeps_step (portPlay_keeps _ _)
      | with_reducible apply keeps_step (modPlayout_keeps _ _)
      | with_reducible refine keeps_foldl (fun _ _ => ?_) ?_
      | with_reducible apply keeps_id
      | split
      | decide

theorem applyPending_keeps (slot : Nat) (s : State) : s.keepsAllBut [.announce, .store] (applyPending slot s) := by
  unfold applyPending
  try dsimp only
  repeat'
    first
      | with_reducible exact keeps_refl _ _
      | with_reducible apply keeps_step (modOp_keeps _ _)
      | with_reducible apply keeps_step (modAnnounce_keeps _ _)
      | with_reducible refine keeps_foldl (fun _ _ => ?_) ?_
      | with_reducible apply keeps_id
      | split
      | decide

theorem leaveAir_keeps (o : PlayOutcome) (back : Bool) (s : State) : s.keepsAllBut [.announce, .store] (leaveAir o back s) := by
  unfold leaveAir
  try dsimp only
  repeat'
    first
      | with_reducible exact keeps_refl _ _
      | with_reducible apply keeps_step (applyPending_keeps _ _)
      | with_reducible apply keeps_step (modAnnounce_keeps _ _)
      | with_reducible refine keeps_foldl (fun _ _ => ?_) ?_
      | with_reducible apply keeps_id
      | split
      | decide

theorem preempt_keeps (s : State) : s.keepsAllBut [.announce, .store] (preempt s) := by
  unfold preempt
  try dsimp only
  repeat'
    first
      | with_reducible exact keeps_refl _ _
      | with_reducible apply keeps_step (leaveAir_keeps _ _ _)
      | with_reducible apply keeps_step (portAbort_keeps _)
      | with_reducible refine keeps_foldl (fun _ _ => ?_) ?_
      | with_reducible apply keeps_id
      | split
      | decide

theorem phraseEnded_keeps (s : State) : s.keepsAllBut [.announce, .store] (phraseEnded s) := by
  unfold phraseEnded
  try dsimp only
  repeat'
    first
      | with_reducible exact keeps_refl _ _
      | with_reducible apply keeps_step (leaveAir_keeps _ _ _)
      | with_reducible apply keeps_step (portStatus_keeps _)
      | with_reducible apply keeps_step (modPort_keeps _ _)
      | with_reducible apply keeps_step (modPlayout_keeps _ _)
      | with_reducible refine keeps_foldl (fun _ _ => ?_) ?_
      | with_reducible apply keeps_id
      | split
      | decide

theorem keepEvac_keeps (gap : Option Nat) (s : State) : s.keepsAllBut [.announce] (keepEvac gap s) := by
  unfold keepEvac
  try dsimp only
  repeat'
    first
      | with_reducible exact keeps_refl _ _
      | with_reducible apply keeps_step (modQueue_keeps _ _)
      | with_reducible refine keeps_foldl (fun _ _ => ?_) ?_
      | with_reducible apply keeps_id
      | split
      | decide

theorem dropEvac_keeps (s : State) : s.keepsAllBut [.announce] (dropEvac s) := by
  unfold dropEvac
  try dsimp only
  repeat'
    first
      | with_reducible exact keeps_refl _ _
      | with_reducible apply keeps_step (modQueue_keeps _ _)
      | with_reducible refine keeps_foldl (fun _ _ => ?_) ?_
      | with_reducible apply keeps_id
      | split
      | decide

theorem portFault_keeps (c : PortCause) (s : State) : s.keepsAllBut [.faults, .bells, .announce, .loop, .links, .store] (portFault c s) := by
  unfold portFault
  try dsimp only
  repeat'
    first
      | with_reducible exact keeps_refl _ _
      | with_reducible apply keeps_step (leaveAir_keeps _ _ _)
      | with_reducible apply keeps_step (modPort_keeps _ _)
      | with_reducible apply keeps_step (raiseFault_keeps _ _ _)
      | with_reducible apply keeps_step (setEvent_keeps _ _)
      | with_reducible refine keeps_foldl (fun _ _ => ?_) ?_
      | with_reducible apply keeps_id
      | split
      | decide

theorem portRecover_keeps (s : State) : s.keepsAllBut [.faults, .bells, .announce, .loop, .links] (portRecover s) := by
  unfold portRecover
  try dsimp only
  repeat'
    first
      | with_reducible exact keeps_refl _ _
      | with_reducible apply keeps_step (startUp_keeps _ _ _)
      | with_reducible apply keeps_step (look_keeps _)
      | with_reducible apply keeps_step (modPort_keeps _ _)
      | with_reducible apply keeps_step (endFault_keeps _ _ _)
      | with_reducible apply keeps_step (setEvent_keeps _ _)
      | with_reducible refine keeps_foldl (fun _ _ => ?_) ?_
      | with_reducible apply keeps_id
      | split
      | decide

theorem exchangeEnd_keeps (w : PlayerWord) (status : Word) (s : State) : s.keepsAllBut [.announce] (exchangeEnd w status s) := by
  unfold exchangeEnd
  try dsimp only
  repeat'
    first
      | with_reducible exact keeps_refl _ _
      | with_reducible apply keeps_step (modPort_keeps _ _)
      | with_reducible apply keeps_step (modPlayout_keeps _ _)
      | with_reducible refine keeps_foldl (fun _ _ => ?_) ?_
      | with_reducible apply keeps_id
      | split
      | decide

theorem tailEnd_keeps (p : Playout) (s : State) : s.keepsAllBut [.announce, .loop, .links] (tailEnd p s) := by
  unfold tailEnd
  try dsimp only
  repeat'
    first
      | with_reducible exact keeps_refl _ _
      | with_reducible apply keeps_step (keepEvac_keeps _ _)
      | with_reducible apply keeps_step (look_keeps _)
      | with_reducible apply keeps_step (writePoints_keeps _ _ _)
      | with_reducible apply keeps_step (setEvent_keeps _ _)
      | with_reducible apply keeps_step (modAnnounce_keeps _ _)
      | with_reducible refine keeps_foldl (fun _ _ => ?_) ?_
      | with_reducible apply keeps_id
      | split
      | decide

theorem pruneExceptions_keeps (s : State) : s.keepsAllBut [.store] (pruneExceptions s) := by
  unfold pruneExceptions
  try dsimp only
  repeat'
    first
      | with_reducible exact keeps_refl _ _
      | with_reducible apply keeps_step (modOp_keeps _ _)
      | with_reducible refine keeps_foldl (fun _ _ => ?_) ?_
      | with_reducible apply keeps_id
      | split
      | decide

theorem putPlan_keeps (p : Plan) (s : State) : s.keepsAllBut [.plan, .links] (putPlan p s) := by
  unfold putPlan
  try dsimp only
  repeat'
    first
      | with_reducible exact keeps_refl _ _
      | with_reducible apply keeps_step (setEventIf_keeps _ _ _)
      | with_reducible apply keeps_step (modPlan_keeps _ _)
      | with_reducible refine keeps_foldl (fun _ _ => ?_) ?_
      | with_reducible apply keeps_id
      | split
      | decide

theorem rebuildPlan_keeps (s : State) : s.keepsAllBut [.plan, .links] (rebuildPlan s) := by
  unfold rebuildPlan
  try dsimp only
  repeat'
    first
      | with_reducible exact keeps_refl _ _
      | with_reducible apply keeps_step (putPlan_keeps _ _)
      | with_reducible refine keeps_foldl (fun _ _ => ?_) ?_
      | with_reducible apply keeps_id
      | split
      | decide

theorem warnFloor_keeps (s : State) (f : Nat) : s.keepsAllBut [.floors, .loop, .links] (warnFloor s f) := by
  unfold warnFloor
  try dsimp only
  repeat'
    first
      | with_reducible exact keeps_refl _ _
      | with_reducible apply keeps_step (setMode_keeps _ _ _)
      | with_reducible refine keeps_foldl (fun _ _ => ?_) ?_
      | with_reducible apply keeps_id
      | split
      | decide

theorem takeWarn1_keeps (s : State) : s.keepsAllBut [.floors, .bells, .plan, .announce, .loop, .links] (takeWarn1 s) := by
  unfold takeWarn1
  try dsimp only
  repeat'
    first
      | with_reducible exact keeps_refl _ _
      | with_reducible apply keeps_step (warnFloor_keeps _ _)
      | with_reducible apply keeps_step (putPlan_keeps _ _)
      | with_reducible apply keeps_step (queueClosing_keeps _ _)
      | with_reducible apply keeps_step (placeClosing_keeps _ _)
      | with_reducible refine keeps_foldl (fun _ _ => ?_) ?_
      | with_reducible apply keeps_id
      | split
      | decide

theorem takeWarn2_keeps (s : State) : s.keepsAllBut [.plan, .announce, .links] (takeWarn2 s) := by
  unfold takeWarn2
  try dsimp only
  repeat'
    first
      | with_reducible exact keeps_refl _ _
      | with_reducible apply keeps_step (putPlan_keeps _ _)
      | with_reducible apply keeps_step (queueClosing_keeps _ _)
      | with_reducible refine keeps_foldl (fun _ _ => ?_) ?_
      | with_reducible apply keeps_id
      | split
      | decide

theorem closeFloor_keeps (f : Nat) (s : State) : s.keepsAllBut [.floors, .faults, .tracker, .drive, .shutters, .bells, .loop, .analog, .links] (closeFloor f s) := by
  unfold closeFloor
  try dsimp only
  repeat'
    first
      | with_reducible exact keeps_refl _ _
      | with_reducible apply keeps_step (closingNotice_keeps _)
      | with_reducible apply keeps_step (takeDepartures_keeps _ _)
      | with_reducible apply keeps_step (lowerFloor_keeps _ _)
      | with_reducible apply keeps_step (setMode_keeps _ _ _)
      | with_reducible apply keeps_step (placeReq_keeps _ _ _)
      | with_reducible refine keeps_foldl (fun _ _ => ?_) ?_
      | with_reducible apply keeps_id
      | split
      | decide

theorem takePosition_keeps (s : State) : s.keepsAllBut [.floors, .faults, .tracker, .drive, .shutters, .bells, .plan, .loop, .analog, .links] (takePosition s) := by
  unfold takePosition
  try dsimp only
  repeat'
    first
      | with_reducible exact keeps_refl _ _
      | with_reducible apply keeps_step (closeFloor_keeps _ _)
      | with_reducible apply keeps_step (putPlan_keeps _ _)
      | with_reducible refine keeps_foldl (fun _ _ => ?_) ?_
      | with_reducible apply keeps_id
      | split
      | decide

theorem takePositions_keeps (n : Nat) (s : State) : s.keepsAllBut [.floors, .faults, .tracker, .drive, .shutters, .bells, .plan, .loop, .analog, .links] (takePositions n s) := by
  induction n generalizing s with
  | zero => exact keeps_refl _ _
  | succ n ih =>
    unfold takePositions
    dsimp only
    split
    · exact keeps_step (ih _) (by decide) (takePosition_keeps _)
    · exact takePosition_keeps _

theorem takeClose_keeps (s : State) : s.keepsAllBut [.floors, .faults, .tracker, .drive, .shutters, .bells, .plan, .announce, .loop, .analog, .links] (takeClose s) := by
  unfold takeClose
  try dsimp only
  repeat'
    first
      | with_reducible exact keeps_refl _ _
      | with_reducible apply keeps_step (takePositions_keeps _ _)
      | with_reducible apply keeps_step (putPlan_keeps _ _)
      | with_reducible apply keeps_step (queueClosing_keeps _ _)
      | with_reducible refine keeps_foldl (fun _ _ => ?_) ?_
      | with_reducible apply keeps_id
      | split
      | decide

theorem takeDue_keeps (s : State) : s.keepsAllBut [.floors, .faults, .tracker, .drive, .shutters, .bells, .plan, .announce, .loop, .analog, .links] (takeDue s) := by
  unfold takeDue earlier
  try dsimp only
  repeat'
    first
      | with_reducible exact keeps_refl _ _
      | with_reducible apply keeps_step (takeClose_keeps _)
      | with_reducible apply keeps_step (takeWarn2_keeps _)
      | with_reducible apply keeps_step (takeWarn1_keeps _)
      | with_reducible apply keeps_step (putPlan_keeps _ _)
      | with_reducible refine keeps_foldl (fun _ _ => ?_) ?_
      | with_reducible apply keeps_id
      | split
      | decide

theorem evaluateOnce_keeps (s : State) : s.keepsAllBut [.floors, .faults, .tracker, .drive, .shutters, .bells, .plan, .announce, .loop, .analog, .links] (evaluateOnce s) := by
  unfold evaluateOnce
  try dsimp only
  repeat'
    first
      | with_reducible exact keeps_refl _ _
      | with_reducible apply keeps_step (takeDue_keeps _)
      | with_reducible refine keeps_foldl (fun _ _ => ?_) ?_
      | with_reducible apply keeps_id
      | split
      | decide

theorem settlePlan_keeps (s : State) : s.keepsAllBut [.floors, .faults, .tracker, .drive, .shutters, .bells, .plan, .announce, .loop, .analog, .links] (settlePlan s) := by
  unfold settlePlan
  try dsimp only
  repeat'
    first
      | with_reducible exact keeps_refl _ _
      | with_reducible apply keeps_step (evaluateOnce_keeps _)
      | with_reducible apply keeps_step (rebuildPlan_keeps _)
      | with_reducible refine keeps_foldl (fun _ _ => ?_) ?_
      | with_reducible apply keeps_id
      | split
      | decide

theorem evaluatePlan_keeps (s : State) : s.keepsAllBut [.floors, .faults, .tracker, .drive, .shutters, .bells, .plan, .announce, .loop, .analog, .links] (evaluatePlan s) := by
  unfold evaluatePlan
  try dsimp only
  repeat'
    first
      | with_reducible exact keeps_refl _ _
      | with_reducible apply keeps_step (settlePlan_keeps _)
      | with_reducible apply keeps_step (evaluateOnce_keeps _)
      | with_reducible apply keeps_step (look_keeps _)
      | with_reducible refine keeps_foldl (fun _ _ => ?_) ?_
      | with_reducible apply keeps_id
      | split
      | decide

theorem replan_keeps (s : State) : s.keepsAllBut [.floors, .faults, .tracker, .drive, .shutters, .bells, .plan, .announce, .loop, .analog, .links] (replan s) := by
  unfold replan
  try dsimp only
  repeat'
    first
      | with_reducible exact keeps_refl _ _
      | with_reducible apply keeps_step (evaluatePlan_keeps _)
      | with_reducible apply keeps_step (rebuildPlan_keeps _)
      | with_reducible refine keeps_foldl (fun _ _ => ?_) ?_
      | with_reducible apply keeps_id
      | split
      | decide

theorem abandonPlan_keeps (b : Bool) (s : State) : s.keepsAllBut [.floors, .faults, .tracker, .drive, .shutters, .bells, .plan, .announce, .loop, .analog, .links] (abandonPlan b s) := by
  unfold abandonPlan
  try dsimp only
  repeat'
    first
      | with_reducible exact keeps_refl _ _
      | with_reducible apply keeps_step (settlePlan_keeps _)
      | with_reducible apply keeps_step (putPlan_keeps _ _)
      | with_reducible apply keeps_step (dropClosing_keeps _)
      | with_reducible refine keeps_foldl (fun _ _ => ?_) ?_
      | with_reducible apply keeps_id
      | split
      | decide

theorem markPassed_keeps (s : State) : s.keepsAllBut [.plan, .links] (markPassed s) := by
  unfold markPassed
  try dsimp only
  repeat'
    first
      | with_reducible exact keeps_refl _ _
      | with_reducible apply keeps_step (putPlan_keeps _ _)
      | with_reducible refine keeps_foldl (fun _ _ => ?_) ?_
      | with_reducible apply keeps_id
      | split
      | decide

theorem redate_keeps (s : State) : s.keepsAllBut [.plan, .links] (redate s) := by
  unfold redate
  try dsimp only
  repeat'
    first
      | with_reducible exact keeps_refl _ _
      | with_reducible apply keeps_step (rebuildPlan_keeps _)
      | with_reducible refine keeps_foldl (fun _ _ => ?_) ?_
      | with_reducible apply keeps_id
      | split
      | decide

theorem dayChange_keeps (s : State) : s.keepsAllBut [.plan, .links, .store] (dayChange s) := by
  unfold dayChange
  try dsimp only
  repeat'
    first
      | with_reducible exact keeps_refl _ _
      | with_reducible apply keeps_step (redate_keeps _)
      | with_reducible apply keeps_step (pruneExceptions_keeps _)
      | with_reducible refine keeps_foldl (fun _ _ => ?_) ?_
      | with_reducible apply keeps_id
      | split
      | decide

theorem wrapDay_keeps (s : State) : s.keepsAllBut [.plan, .links, .store] (wrapDay s) := by
  unfold wrapDay
  try dsimp only
  repeat'
    first
      | with_reducible exact keeps_refl _ _
      | with_reducible apply keeps_step (redate_keeps _)
      | with_reducible apply keeps_step (modOp_keeps _ _)
      | with_reducible apply keeps_step (modPlan_keeps _ _)
      | with_reducible refine keeps_foldl (fun _ _ => ?_) ?_
      | with_reducible apply keeps_id
      | split
      | decide

theorem placeFloors_keeps (s : State) : s.keepsAllBut [.floors] (placeFloors s) := by
  unfold placeFloors
  try dsimp only
  repeat'
    first
      | with_reducible exact keeps_refl _ _
      | with_reducible apply keeps_step (modFloors_keeps _ _)
      | with_reducible refine keeps_foldl (fun _ _ => ?_) ?_
      | with_reducible apply keeps_id
      | split
      | decide

theorem clearSilence_keeps (s : State) : s.keepsAllBut [.floors, .links] (clearSilence s) := by
  unfold clearSilence
  try dsimp only
  repeat'
    first
      | with_reducible exact keeps_refl _ _
      | with_reducible apply keeps_step (setEvent_keeps _ _)
      | with_reducible apply keeps_step (modFloors_keeps _ _)
      | with_reducible refine keeps_foldl (fun _ _ => ?_) ?_
      | with_reducible apply keeps_id
      | split
      | decide

theorem burnFloors_keeps (fs : List Nat) (c : FireCause) (s : State) : s.keepsAllBut [.floors, .loop, .links] (burnFloors fs c s) := by
  unfold burnFloors
  try dsimp only
  repeat'
    first
      | with_reducible exact keeps_refl _ _
      | with_reducible apply keeps_step (reboard_keeps _)
      | with_reducible apply keeps_step (modFloor_keeps _ _ _)
      | with_reducible apply keeps_step (setEventIf_keeps _ _ _)
      | with_reducible refine keeps_foldl (fun _ _ => ?_) ?_
      | with_reducible apply keeps_id
      | split
      | decide

theorem fireArrives_keeps (before : State) (fs : List Nat) (c : FireCause) (s : State) : s.keepsAllBut [.floors, .faults, .tracker, .drive, .shutters, .bells, .plan, .announce, .loop, .analog, .links, .store] (fireArrives before fs c s) := by
  unfold fireArrives
  try dsimp only
  repeat'
    first
      | with_reducible exact keeps_refl _ _
      | with_reducible apply keeps_step (burnFloors_keeps _ _ _)
      | with_reducible apply keeps_step (abandonPlan_keeps _ _)
      | with_reducible apply keeps_step (keepEvac_keeps _ _)
      | with_reducible apply keeps_step (preempt_keeps _)
      | with_reducible apply keeps_step (look_keeps _)
      | with_reducible apply keeps_step (driveFire_keeps _)
      | with_reducible apply keeps_step (takeDepartures_keeps _ _)
      | with_reducible apply keeps_step (fireDropShutter_keeps _ _)
      | with_reducible apply keeps_step (arbiter_keeps _)
      | with_reducible apply keeps_step (bellsEnterFire_keeps _)
      | with_reducible apply keeps_step (ringBegins_keeps _)
      | with_reducible refine keeps_foldl (fun _ _ => ?_) ?_
      | with_reducible apply keeps_id
      | split
      | decide

theorem zoneIntoAlarm_keeps (z : Nat) (s : State) : s.keepsAllBut [.floors, .faults, .tracker, .drive, .shutters, .bells, .plan, .announce, .loop, .analog, .links, .store] (zoneIntoAlarm z s) := by
  unfold zoneIntoAlarm
  try dsimp only
  repeat'
    first
      | with_reducible exact keeps_refl _ _
      | with_reducible apply keeps_step (fireArrives_keeps _ _ _ _)
      | with_reducible apply keeps_step (clearSilence_keeps _)
      | with_reducible apply keeps_step (modZone_keeps _ _ _)
      | with_reducible apply keeps_step (setEvent_keeps _ _)
      | with_reducible refine keeps_foldl (fun _ _ => ?_) ?_
      | with_reducible apply keeps_id
      | split
      | decide

theorem zoneIntoClear_keeps (z : Nat) (s : State) : s.keepsAllBut [.floors, .links] (zoneIntoClear z s) := by
  unfold zoneIntoClear
  try dsimp only
  repeat'
    first
      | with_reducible exact keeps_refl _ _
      | with_reducible apply keeps_step (modZone_keeps _ _ _)
      | with_reducible apply keeps_step (setEvent_keeps _ _)
      | with_reducible refine keeps_foldl (fun _ _ => ?_) ?_
      | with_reducible apply keeps_id
      | split
      | decide

theorem alarmChange_keeps (g : Floors → Floors) (s : State) : s.keepsAllBut [.floors, .faults, .tracker, .drive, .shutters, .bells, .plan, .announce, .loop, .analog, .links, .store] (alarmChange g s) := by
  unfold alarmChange
  try dsimp only
  repeat'
    first
      | with_reducible exact keeps_refl _ _
      | with_reducible apply keeps_step (fireArrives_keeps _ _ _ _)
      | with_reducible apply keeps_step (clearSilence_keeps _)
      | with_reducible apply keeps_step (setEvent_keeps _ _)
      | with_reducible apply keeps_step (modFloors_keeps _ _)
      | with_reducible refine keeps_foldl (fun _ _ => ?_) ?_
      | with_reducible apply keeps_id
      | split
      | decide

theorem silenceFire_keeps (s : State) : s.keepsAllBut [.floors, .bells, .loop, .links] (silenceFire s) := by
  unfold silenceFire
  try dsimp only
  repeat'
    first
      | with_reducible exact keeps_refl _ _
      | with_reducible apply keeps_step (ringStops_keeps _)
      | with_reducible apply keeps_step (setEvent_keeps _ _)
      | with_reducible apply keeps_step (modFloors_keeps _ _)
      | with_reducible refine keeps_foldl (fun _ _ => ?_) ?_
      | with_reducible apply keeps_id
      | split
      | decide

theorem restoreFire_keeps (s : State) : s.keepsAllBut [.floors, .faults, .tracker, .drive, .shutters, .bells, .plan, .announce, .loop, .analog, .links] (restoreFire s) := by
  unfold restoreFire
  try dsimp only
  repeat'
    first
      | with_reducible exact keeps_refl _ _
      | with_reducible apply keeps_step (clearSilence_keeps _)
      | with_reducible apply keeps_step (evaluatePlan_keeps _)
      | with_reducible apply keeps_step (dropEvac_keeps _)
      | with_reducible apply keeps_step (reboard_keeps _)
      | with_reducible apply keeps_step (dueRoundsBegin_keeps _)
      | with_reducible apply keeps_step (ringStops_keeps _)
      | with_reducible apply keeps_step (setEvent_keeps _ _)
      | with_reducible apply keeps_step (modFloors_keeps _ _)
      | with_reducible refine keeps_foldl (fun _ _ => ?_) ?_
      | with_reducible apply keeps_id
      | split
      | decide

theorem reopenStore_keeps (s : State) : s.keepsAllBut [.floors, .faults, .shutters, .loop, .analog, .links] (reopenStore s) := by
  unfold reopenStore
  try dsimp only
  repeat'
    first
      | with_reducible exact keeps_refl _ _
      | with_reducible apply keeps_step (raiseShutter_keeps _ _)
      | with_reducible apply keeps_step (arbiter_keeps _)
      | with_reducible apply keeps_step (finishTest_keeps _ _)
      | with_reducible apply keeps_step (setMode_keeps _ _ _)
      | with_reducible refine keeps_foldl (fun _ _ => ?_) ?_
      | with_reducible apply keeps_id
      | split
      | decide

theorem setReferenced_keeps (b : Bool) (s : State) : s.keepsAllBut [.tracker, .links] (setReferenced b s) := by
  unfold setReferenced
  try dsimp only
  repeat'
    first
      | with_reducible exact keeps_refl _ _
      | with_reducible apply keeps_step (setEventIf_keeps _ _ _)
      | with_reducible apply keeps_step (modTracker_keeps _ _)
      | with_reducible refine keeps_foldl (fun _ _ => ?_) ?_
      | with_reducible apply keeps_id
      | split
      | decide

theorem tickMoves_keeps (s : State) : s.keepsAllBut [.floors, .faults, .tracker, .shutters, .loop, .analog, .links] (tickMoves s) := by
  unfold tickMoves
  try dsimp only
  repeat'
    first
      | with_reducible exact keeps_refl _ _
      | with_reducible apply keeps_step (shuttersMoving_keeps _)
      | with_reducible apply keeps_step (modTracker_keeps _ _)
      | with_reducible refine keeps_foldl (fun _ _ => ?_) ?_
      | with_reducible apply keeps_id
      | split
      | decide

theorem indexMissing_keeps (s : State) : s.keepsAllBut [.floors, .faults, .tracker, .drive, .shutters, .bells, .loop, .analog, .links] (indexMissing s) := by
  unfold indexMissing
  try dsimp only
  repeat'
    first
      | with_reducible exact keeps_refl _ _
      | with_reducible apply keeps_step (setReferenced_keeps _ _)
      | with_reducible apply keeps_step (brakingFault_keeps _ _)
      | with_reducible apply keeps_step (raiseFault_keeps _ _ _)
      | with_reducible refine keeps_foldl (fun _ _ => ?_) ?_
      | with_reducible apply keeps_id
      | split
      | decide

theorem takeTick_keeps (dir : Direction) (s : State) : s.keepsAllBut [.floors, .faults, .tracker, .drive, .shutters, .bells, .loop, .analog, .links] (takeTick dir s) := by
  unfold takeTick
  try dsimp only
  repeat'
    first
      | with_reducible exact keeps_refl _ _
      | with_reducible apply keeps_step (indexMissing_keeps _)
      | with_reducible apply keeps_step (tickMoves_keeps _)
      | with_reducible apply keeps_step (driveTick_keeps _ _)
      | with_reducible apply keeps_step (modTracker_keeps _ _)
      | with_reducible refine keeps_foldl (fun _ _ => ?_) ?_
      | with_reducible apply keeps_id
      | split
      | decide

theorem invalidTransition_keeps (s : State) : s.keepsAllBut [.floors, .faults, .tracker, .drive, .shutters, .bells, .loop, .analog, .links] (invalidTransition s) := by
  unfold invalidTransition
  try dsimp only
  repeat'
    first
      | with_reducible exact keeps_refl _ _
      | with_reducible apply keeps_step (raiseAndBrake_keeps _ _)
      | with_reducible apply keeps_step (modTracker_keeps _ _)
      | with_reducible refine keeps_foldl (fun _ _ => ?_) ?_
      | with_reducible apply keeps_id
      | split
      | decide

theorem indexReferences_keeps (s : State) : s.keepsAllBut [.floors, .tracker, .drive, .loop, .links] (indexReferences s) := by
  unfold indexReferences
  try dsimp only
  repeat'
    first
      | with_reducible exact keeps_refl _ _
      | with_reducible apply keeps_step (setReferenced_keeps _ _)
      | with_reducible apply keeps_step (enterAccel_keeps _)
      | with_reducible apply keeps_step (modTracker_keeps _ _)
      | with_reducible refine keeps_foldl (fun _ _ => ?_) ?_
      | with_reducible apply keeps_id
      | split
      | decide

theorem indexChecks_keeps (s : State) : s.keepsAllBut [.floors, .faults, .tracker, .drive, .shutters, .bells, .loop, .analog, .links] (indexChecks s) := by
  unfold indexChecks
  try dsimp only
  repeat'
    first
      | with_reducible exact keeps_refl _ _
      | with_reducible apply keeps_step (setReferenced_keeps _ _)
      | with_reducible apply keeps_step (driveCorrection_keeps _ _)
      | with_reducible apply keeps_step (brakingFault_keeps _ _)
      | with_reducible apply keeps_step (raiseFault_keeps _ _ _)
      | with_reducible apply keeps_step (modTracker_keeps _ _)
      | with_reducible refine keeps_foldl (fun _ _ => ?_) ?_
      | with_reducible apply keeps_id
      | split
      | decide

theorem limitsOf_keeps (before : State) (s : State) (i : Nat) : s.keepsAllBut [.floors, .faults, .shutters, .bells, .loop, .analog, .links] (limitsOf before s i) := by
  unfold limitsOf
  try dsimp only
  repeat'
    first
      | with_reducible exact keeps_refl _ _
      | with_reducible apply keeps_step (limitChange_keeps _ _ _ _)
      | with_reducible apply keeps_step (arbiter_keeps _)
      | with_reducible refine keeps_foldl (fun _ _ => ?_) ?_
      | with_reducible apply keeps_id
      | split
      | decide

theorem takeLimits_keeps (before : State) (s : State) : s.keepsAllBut [.floors, .faults, .tracker, .drive, .shutters, .bells, .loop, .analog, .links] (takeLimits before s) := by
  unfold takeLimits
  try dsimp only
  repeat'
    first
      | with_reducible exact keeps_refl _ _
      | with_reducible apply keeps_step (limitsOf_keeps _ _ _)
      | with_reducible apply keeps_step (takeDepartures_keeps _ _)
      | with_reducible refine keeps_foldl (fun _ _ => ?_) ?_
      | with_reducible apply keeps_id
      | split
      | decide

theorem takeTrips_keeps (before : State) (s : State) : s.keepsAllBut [.floors, .faults, .tracker, .drive, .shutters, .bells, .loop, .analog, .links] (takeTrips before s) := by
  unfold takeTrips
  try dsimp only
  repeat'
    first
      | with_reducible exact keeps_refl _ _
      | with_reducible apply keeps_step (driveTrip_keeps _)
      | with_reducible refine keeps_foldl (fun _ _ => ?_) ?_
      | with_reducible apply keeps_id
      | split
      | decide

theorem takeInputs_keeps (before : State) (s : State) : s.keepsAllBut [.floors, .faults, .tracker, .drive, .shutters, .bells, .loop, .analog, .links] (takeInputs before s) := by
  unfold takeInputs
  try dsimp only
  repeat'
    first
      | with_reducible exact keeps_refl _ _
      | with_reducible apply keeps_step (takeTrips_keeps _ _)
      | with_reducible apply keeps_step (takeLimits_keeps _ _)
      | with_reducible apply keeps_step (callAnswer_keeps _ _)
      | with_reducible apply keeps_step (callPress_keeps _ _)
      | with_reducible refine keeps_foldl (fun _ _ => ?_) ?_
      | with_reducible apply keeps_id
      | split
      | decide

theorem loopReturns_keeps (s : State) : s.keepsAllBut [.floors, .faults, .shutters, .bells, .loop, .analog, .links] (loopReturns s) := by
  unfold loopReturns
  try dsimp only
  repeat'
    first
      | with_reducible exact keeps_refl _ _
      | with_reducible apply keeps_step (shuttersLoopReturn_keeps _)
      | with_reducible apply keeps_step (endFault_keeps _ _ _)
      | with_reducible apply keeps_step (modLoop_keeps _ _)
      | with_reducible refine keeps_foldl (fun _ _ => ?_) ?_
      | with_reducible apply keeps_id
      | split
      | decide

theorem goodScan_keeps (sc : Scan) (inputs : List Byte) (s : State) : s.keepsAllBut [.floors, .faults, .tracker, .drive, .shutters, .bells, .loop, .analog, .links] (goodScan sc inputs s) := by
  unfold goodScan
  try dsimp only
  repeat'
    first
      | with_reducible exact keeps_refl _ _
      | with_reducible apply keeps_step (loopReturns_keeps _)
      | with_reducible apply keeps_step (takeInputs_keeps _ _)
      | with_reducible apply keeps_step (inchDelivered_keeps _)
      | with_reducible apply keeps_step (modLoop_keeps _ _)
      | with_reducible refine keeps_foldl (fun _ _ => ?_) ?_
      | with_reducible apply keeps_id
      | split
      | decide

theorem loopFaults_keeps (s : State) : s.keepsAllBut [.floors, .faults, .tracker, .drive, .shutters, .bells, .loop, .analog, .links] (loopFaults s) := by
  unfold loopFaults
  try dsimp only
  repeat'
    first
      | with_reducible exact keeps_refl _ _
      | with_reducible apply keeps_step (driveLoopFault_keeps _)
      | with_reducible apply keeps_step (takeDepartures_keeps _ _)
      | with_reducible apply keeps_step (shuttersLoopFault_keeps _)
      | with_reducible apply keeps_step (modLoop_keeps _ _)
      | with_reducible refine keeps_foldl (fun _ _ => ?_) ?_
      | with_reducible apply keeps_id
      | split
      | decide

theorem badScan_keeps (s : State) : s.keepsAllBut [.floors, .faults, .tracker, .drive, .shutters, .bells, .loop, .analog, .links] (badScan s) := by
  unfold badScan
  try dsimp only
  repeat'
    first
      | with_reducible exact keeps_refl _ _
      | with_reducible apply keeps_step (loopFaults_keeps _)
      | with_reducible apply keeps_step (raiseFault_keeps _ _ _)
      | with_reducible apply keeps_step (modLoop_keeps _ _)
      | with_reducible refine keeps_foldl (fun _ _ => ?_) ?_
      | with_reducible apply keeps_id
      | split
      | decide

theorem beginScan_keeps (s : State) : s.keepsAllBut [.drive, .loop] (beginScan s) := by
  unfold beginScan
  try dsimp only
  repeat'
    first
      | with_reducible exact keeps_refl _ _
      | with_reducible apply keeps_step (modLoop_keeps _ _)
      | with_reducible apply keeps_step (modDrive_keeps _ _)
      | with_reducible refine keeps_foldl (fun _ _ => ?_) ?_
      | with_reducible apply keeps_id
      | split
      | decide

theorem finishScan_keeps (sc : Scan) (returned : Word) (inputs : List Byte) (s : State) : s.keepsAllBut [.floors, .faults, .tracker, .drive, .shutters, .bells, .loop, .analog, .links] (finishScan sc returned inputs s) := by
  unfold finishScan
  try dsimp only
  repeat'
    first
      | with_reducible exact keeps_refl _ _
      | with_reducible apply keeps_step (badScan_keeps _)
      | with_reducible apply keeps_step (goodScan_keeps _ _ _)
      | with_reducible apply keeps_step (modLoop_keeps _ _)
      | with_reducible refine keeps_foldl (fun _ _ => ?_) ?_
      | with_reducible apply keeps_id
      | split
      | decide

theorem supplyFalls_keeps (s : State) : s.keepsAllBut [.floors, .faults, .drive, .shutters, .bells, .loop, .analog, .links] (supplyFalls s) := by
  unfold supplyFalls
  try dsimp only
  repeat'
    first
      | with_reducible exact keeps_refl _ _
      | with_reducible apply keeps_step (warningAbandon_keeps _)
      | with_reducible apply keeps_step (shuttersSupplyLow_keeps _)
      | with_reducible apply keeps_step (raiseFault_keeps _ _ _)
      | with_reducible refine keeps_foldl (fun _ _ => ?_) ?_
      | with_reducible apply keeps_id
      | split
      | decide

theorem supplyRises_keeps (s : State) : s.keepsAllBut [.floors, .faults, .shutters, .loop, .analog, .links] (supplyRises s) := by
  unfold supplyRises
  try dsimp only
  repeat'
    first
      | with_reducible exact keeps_refl _ _
      | with_reducible apply keeps_step (arbiter_keeps _)
      | with_reducible apply keeps_step (endFault_keeps _ _ _)
      | with_reducible refine keeps_foldl (fun _ _ => ?_) ?_
      | with_reducible apply keeps_id
      | split
      | decide

theorem windowChanged_keeps (c : Nat) (old : Window) (new : Window) (s : State) : s.keepsAllBut [.floors, .faults, .tracker, .drive, .shutters, .bells, .loop, .analog, .links] (windowChanged c old new s) := by
  unfold windowChanged
  try dsimp only
  repeat'
    first
      | with_reducible exact keeps_refl _ _
      | with_reducible apply keeps_step (supplyRises_keeps _)
      | with_reducible apply keeps_step (supplyFalls_keeps _)
      | with_reducible apply keeps_step (driveOverload_keeps _)
      | with_reducible apply keeps_step (jamShutter_keeps _ _)
      | with_reducible refine keeps_foldl (fun _ _ => ?_) ?_
      | with_reducible apply keeps_id
      | split
      | decide

theorem sampleChannel_keeps (c : Nat) (v : Nat) (s : State) : s.keepsAllBut [.floors, .faults, .tracker, .drive, .shutters, .bells, .loop, .analog, .links] (sampleChannel c v s) := by
  unfold sampleChannel
  try dsimp only
  repeat'
    first
      | with_reducible exact keeps_refl _ _
      | with_reducible apply keeps_step (windowChanged_keeps _ _ _ _)
      | with_reducible apply keeps_step (modChan_keeps _ _ _)
      | with_reducible refine keeps_foldl (fun _ _ => ?_) ?_
      | with_reducible apply keeps_id
      | split
      | decide

theorem sampleChannels_keeps (samples : List Int) (s : State) : s.keepsAllBut [.floors, .faults, .tracker, .drive, .shutters, .bells, .loop, .analog, .links] (sampleChannels samples s) := by
  unfold sampleChannels
  try dsimp only
  repeat'
    first
      | with_reducible exact keeps_refl _ _
      | with_reducible apply keeps_step (sampleChannel_keeps _ _ _)
      | with_reducible refine keeps_foldl (fun _ _ => ?_) ?_
      | with_reducible apply keeps_id
      | split
      | decide

theorem reqDone_keeps (n : Nat) (s : State) (r : SoundReq) : s.keepsAllBut [.floors, .faults, .tracker, .drive, .shutters, .bells, .loop, .analog, .links] (reqDone n s r) := by
  unfold reqDone
  try dsimp only
  repeat'
    first
      | with_reducible exact keeps_refl _ _
      | with_reducible apply keeps_step (warningDone_keeps _ _)
      | with_reducible apply keeps_step (callDone_keeps _ _ _)
      | with_reducible refine keeps_foldl (fun _ _ => ?_) ?_
      | with_reducible apply keeps_id
      | split
      | decide

theorem nextStroke_keeps (n : Nat) (s : State) : s.keepsAllBut [.bells, .loop] (nextStroke n s) := by
  unfold nextStroke
  try dsimp only
  repeat'
    first
      | with_reducible exact keeps_refl _ _
      | with_reducible apply keeps_step (strokeOn_keeps _ _)
      | with_reducible apply keeps_step (modLine_keeps _ _ _)
      | with_reducible refine keeps_foldl (fun _ _ => ?_) ?_
      | with_reducible apply keeps_id
      | split
      | decide

theorem faultLine_keeps (n : Nat) (s : State) : s.keepsAllBut [.floors, .faults, .tracker, .drive, .shutters, .bells, .loop, .analog, .links] (faultLine n s) := by
  unfold faultLine
  try dsimp only
  repeat'
    first
      | with_reducible exact keeps_refl _ _
      | with_reducible apply keeps_step (reqDone_keeps _ _ _)
      | with_reducible apply keeps_step (raiseFault_keeps _ _ _)
      | with_reducible apply keeps_step (modLine_keeps _ _ _)
      | with_reducible refine keeps_foldl (fun _ _ => ?_) ?_
      | with_reducible apply keeps_id
      | split
      | decide

theorem healLine_keeps (n : Nat) (s : State) : s.keepsAllBut [.bells, .loop] (healLine n s) := by
  unfold healLine
  try dsimp only
  repeat'
    first
      | with_reducible exact keeps_refl _ _
      | with_reducible apply keeps_step (serveLine_keeps _ _)
      | with_reducible apply keeps_step (modLine_keeps _ _ _)
      | with_reducible refine keeps_foldl (fun _ _ => ?_) ?_
      | with_reducible apply keeps_id
      | split
      | decide

theorem endTail_keeps (n : Nat) (s : State) : s.keepsAllBut [.bells, .loop] (endTail n s) := by
  unfold endTail
  try dsimp only
  repeat'
    first
      | with_reducible exact keeps_refl _ _
      | with_reducible apply keeps_step (serveLine_keeps _ _)
      | with_reducible apply keeps_step (modLine_keeps _ _ _)
      | with_reducible refine keeps_foldl (fun _ _ => ?_) ?_
      | with_reducible apply keeps_id
      | split
      | decide

theorem judgeStroke_keeps (n : Nat) (s : State) : s.keepsAllBut [.floors, .faults, .tracker, .drive, .shutters, .bells, .loop, .analog, .links] (judgeStroke n s) := by
  unfold judgeStroke
  try dsimp only
  repeat'
    first
      | with_reducible exact keeps_refl _ _
      | with_reducible apply keeps_step (endTail_keeps _ _)
      | with_reducible apply keeps_step (faultLine_keeps _ _)
      | with_reducible apply keeps_step (strokeOff_keeps _ _)
      | with_reducible apply keeps_step (modLine_keeps _ _ _)
      | with_reducible refine keeps_foldl (fun _ _ => ?_) ?_
      | with_reducible apply keeps_id
      | split
      | decide

theorem endOldTail_keeps (n : Nat) (s : State) : s.keepsAllBut [.bells, .loop] (endOldTail n s) := by
  unfold endOldTail
  try dsimp only
  repeat'
    first
      | with_reducible exact keeps_refl _ _
      | with_reducible apply keeps_step (writePoint_keeps _ _ _)
      | with_reducible apply keeps_step (modBells_keeps _ _)
      | with_reducible refine keeps_foldl (fun _ _ => ?_) ?_
      | with_reducible apply keeps_id
      | split
      | decide

theorem completePattern_keeps (n : Nat) (c : Current) (s : State) : s.keepsAllBut [.floors, .faults, .tracker, .drive, .shutters, .bells, .loop, .analog, .links] (completePattern n c s) := by
  unfold completePattern
  try dsimp only
  repeat'
    first
      | with_reducible exact keeps_refl _ _
      | with_reducible apply keeps_step (reqDone_keeps _ _ _)
      | with_reducible apply keeps_step (serveLine_keeps _ _)
      | with_reducible apply keeps_step (modLine_keeps _ _ _)
      | with_reducible refine keeps_foldl (fun _ _ => ?_) ?_
      | with_reducible apply keeps_id
      | split
      | decide

theorem buildFloors_keeps (s : State) : s.keepsAllBut [.floors, .loop, .links] (buildFloors s) := by
  unfold buildFloors
  try dsimp only
  repeat'
    first
      | with_reducible exact keeps_refl _ _
      | with_reducible apply keeps_step (placeFloors_keeps _)
      | with_reducible apply keeps_step (reboard_keeps _)
      | with_reducible apply keeps_step (setEvent_keeps _ _)
      | with_reducible apply keeps_step (modFloors_keeps _ _)
      | with_reducible refine keeps_foldl (fun _ _ => ?_) ?_
      | with_reducible apply keeps_id
      | split
      | decide

theorem buildBells_keeps (s : State) : s.keepsAllBut [.bells, .loop] (buildBells s) := by
  unfold buildBells
  try dsimp only
  repeat'
    first
      | with_reducible exact keeps_refl _ _
      | with_reducible apply keeps_step (ringBegins_keeps _)
      | with_reducible apply keeps_step (modBells_keeps _ _)
      | with_reducible refine keeps_foldl (fun _ _ => ?_) ?_
      | with_reducible apply keeps_id
      | split
      | decide

theorem buildShutters_keeps (hold : Nat → Bool) (s : State) : s.keepsAllBut [.shutters, .loop] (buildShutters hold s) := by
  unfold buildShutters
  try dsimp only
  repeat'
    first
      | with_reducible exact keeps_refl _ _
      | with_reducible apply keeps_step (writeShutter_keeps _ _ _)
      | with_reducible apply keeps_step (modShutters_keeps _ _)
      | with_reducible refine keeps_foldl (fun _ _ => ?_) ?_
      | with_reducible apply keeps_id
      | split
      | decide

theorem restartSupervision_keeps (s : State) : s.keepsAllBut [.links] (restartSupervision s) := by
  unfold restartSupervision
  try dsimp only
  repeat'
    first
      | with_reducible exact keeps_refl _ _
      | with_reducible apply keeps_step (modLinks_keeps _ _)
      | with_reducible refine keeps_foldl (fun _ _ => ?_) ?_
      | with_reducible apply keeps_id
      | split
      | decide

theorem buildPlan_keeps (s : State) : s.keepsAllBut [.plan, .links, .store] (buildPlan s) := by
  unfold buildPlan
  try dsimp only
  repeat'
    first
      | with_reducible exact keeps_refl _ _
      | with_reducible apply keeps_step (markPassed_keeps _)
      | with_reducible apply keeps_step (rebuildPlan_keeps _)
      | with_reducible apply keeps_step (pruneExceptions_keeps _)
      | with_reducible refine keeps_foldl (fun _ _ => ?_) ?_
      | with_reducible apply keeps_id
      | split
      | decide

theorem enterSupervising_keeps (e : Eng) (o : Op) (s : State) : s.keepsAllBut [.floors, .shutters, .bells, .plan, .announce, .loop, .analog, .links, .store] (enterSupervising e o s) := by
  unfold enterSupervising
  try dsimp only
  repeat'
    first
      | with_reducible exact keeps_refl _ _
      | with_reducible apply keeps_step (buildPlan_keeps _)
      | with_reducible apply keeps_step (restartSupervision_keeps _)
      | with_reducible apply keeps_step (buildShutters_keeps _ _)
      | with_reducible apply keeps_step (buildBells_keeps _)
      | with_reducible apply keeps_step (buildFloors_keeps _)
      | with_reducible apply keeps_step (keepEvac_keeps _ _)
      | with_reducible apply keeps_step (look_keeps _)
      | with_reducible apply keeps_step (modChan_keeps _ _ _)
      | with_reducible apply keeps_step (setEvent_keeps _ _)
      | with_reducible apply keeps_step (modStore_keeps _ _)
      | with_reducible apply keeps_step (modLoop_keeps _ _)
      | with_reducible refine keeps_foldl (fun _ _ => ?_) ?_
      | with_reducible apply keeps_id
      | split
      | decide

theorem enterUnconfigured_keeps (j : Judged) (s : State) : s.keepsAllBut [.faults, .bells, .loop, .links, .store] (enterUnconfigured j s) := by
  unfold enterUnconfigured
  try dsimp only
  repeat'
    first
      | with_reducible exact keeps_refl _ _
      | with_reducible apply keeps_step (raiseFault_keeps _ _ _)
      | with_reducible apply keeps_step (setEvent_keeps _ _)
      | with_reducible apply keeps_step (modStore_keeps _ _)
      | with_reducible refine keeps_foldl (fun _ _ => ?_) ?_
      | with_reducible apply keeps_id
      | split
      | decide

theorem takeReading_keeps (j : Judged) (s : State) : s.keepsAllBut [.faults, .bells, .loop, .links, .store] (takeReading j s) := by
  unfold takeReading
  try dsimp only
  repeat'
    first
      | with_reducible exact keeps_refl _ _
      | with_reducible apply keeps_step (enterUnconfigured_keeps _ _)
      | with_reducible apply keeps_step (modStore_keeps _ _)
      | with_reducible refine keeps_foldl (fun _ _ => ?_) ?_
      | with_reducible apply keeps_id
      | split
      | decide

theorem dismissLines_keeps (s : State) : s.keepsAllBut [.bells, .loop] (dismissLines s) := by
  unfold dismissLines
  try dsimp only
  repeat'
    first
      | with_reducible exact keeps_refl _ _
      | with_reducible apply keeps_step (writePoint_keeps _ _ _)
      | with_reducible apply keeps_step (modBells_keeps _ _)
      | with_reducible refine keeps_foldl (fun _ _ => ?_) ?_
      | with_reducible apply keeps_id
      | split
      | decide

theorem dismissPlayouts_keeps (s : State) : s.keepsAllBut [.announce, .store] (dismissPlayouts s) := by
  unfold dismissPlayouts
  try dsimp only
  repeat'
    first
      | with_reducible exact keeps_refl _ _
      | with_reducible apply keeps_step (leaveAir_keeps _ _ _)
      | with_reducible apply keeps_step (portAbort_keeps _)
      | with_reducible apply keeps_step (modQueue_keeps _ _)
      | with_reducible refine keeps_foldl (fun _ _ => ?_) ?_
      | with_reducible apply keeps_id
      | split
      | decide

theorem trimOutputs_keeps (s : State) : s.keepsAllBut [.loop] (trimOutputs s) := by
  unfold trimOutputs
  try dsimp only
  repeat'
    first
      | with_reducible exact keeps_refl _ _
      | with_reducible apply keeps_step (modLoop_keeps _ _)
      | with_reducible refine keeps_foldl (fun _ _ => ?_) ?_
      | with_reducible apply keeps_id
      | split
      | decide

theorem applyDrive_keeps (s : State) : s.keepsAllBut [.drive, .links] (applyDrive s) := by
  unfold applyDrive
  try dsimp only
  repeat'
    first
      | with_reducible exact keeps_refl _ _
      | with_reducible apply keeps_step (setEventIf_keeps _ _ _)
      | with_reducible apply keeps_step (modDrive_keeps _ _)
      | with_reducible refine keeps_foldl (fun _ _ => ?_) ?_
      | with_reducible apply keeps_id
      | split
      | decide

theorem applyTracker_keeps (s : State) : s.keepsAllBut [.tracker, .links] (applyTracker s) := by
  unfold applyTracker
  try dsimp only
  repeat'
    first
      | with_reducible exact keeps_refl _ _
      | with_reducible apply keeps_step (setReferenced_keeps _ _)
      | with_reducible apply keeps_step (modTracker_keeps _ _)
      | with_reducible refine keeps_foldl (fun _ _ => ?_) ?_
      | with_reducible apply keeps_id
      | split
      | decide

theorem applyShutters_keeps (s : State) : s.keepsAllBut [.floors, .faults, .shutters, .bells, .loop, .analog, .links] (applyShutters s) := by
  unfold applyShutters
  try dsimp only
  repeat'
    first
      | with_reducible exact keeps_refl _ _
      | with_reducible apply keeps_step (buildShutters_keeps _ _)
      | with_reducible apply keeps_step (resolveShutter_keeps _ _)
      | with_reducible apply keeps_step (arbiter_keeps _)
      | with_reducible refine keeps_foldl (fun _ _ => ?_) ?_
      | with_reducible apply keeps_id
      | split
      | decide

theorem applyPlan_keeps (s : State) : s.keepsAllBut [.plan, .links] (applyPlan s) := by
  unfold applyPlan
  try dsimp only
  repeat'
    first
      | with_reducible exact keeps_refl _ _
      | with_reducible apply keeps_step (markPassed_keeps _)
      | with_reducible apply keeps_step (rebuildPlan_keeps _)
      | with_reducible refine keeps_foldl (fun _ _ => ?_) ?_
      | with_reducible apply keeps_id
      | split
      | decide

theorem applyConfig_keeps (e : Eng) (s : State) : s.keepsAllBut [.floors, .faults, .tracker, .drive, .shutters, .bells, .plan, .announce, .loop, .analog, .links, .store] (applyConfig e s) := by
  unfold applyConfig
  try dsimp only
  repeat'
    first
      | with_reducible exact keeps_refl _ _
      | with_reducible apply keeps_step (applyPlan_keeps _)
      | with_reducible apply keeps_step (applyShutters_keeps _)
      | with_reducible apply keeps_step (applyTracker_keeps _)
      | with_reducible apply keeps_step (applyDrive_keeps _)
      | with_reducible apply keeps_step (trimOutputs_keeps _)
      | with_reducible apply keeps_step (dismissPlayouts_keeps _)
      | with_reducible apply keeps_step (dismissLines_keeps _)
      | with_reducible apply keeps_step (restartSupervision_keeps _)
      | with_reducible apply keeps_step (buildBells_keeps _)
      | with_reducible apply keeps_step (buildFloors_keeps _)
      | with_reducible apply keeps_step (endFault_keeps _ _ _)
      | with_reducible apply keeps_step (modChan_keeps _ _ _)
      | with_reducible apply keeps_step (setEvent_keeps _ _)
      | with_reducible apply keeps_step (modStore_keeps _ _)
      | with_reducible refine keeps_foldl (fun _ _ => ?_) ?_
      | with_reducible apply keeps_id
      | split
      | decide

theorem applyFirst_keeps (e : Eng) (s : State) : s.keepsAllBut [.floors, .faults, .shutters, .bells, .plan, .announce, .loop, .analog, .links, .store] (applyFirst e s) := by
  unfold applyFirst
  try dsimp only
  repeat'
    first
      | with_reducible exact keeps_refl _ _
      | with_reducible apply keeps_step (enterSupervising_keeps _ _ _)
      | with_reducible apply keeps_step (endFault_keeps _ _ _)
      | with_reducible apply keeps_step (modStore_keeps _ _)
      | with_reducible refine keeps_foldl (fun _ _ => ?_) ?_
      | with_reducible apply keeps_id
      | split
      | decide

theorem dropShadow_keeps (s : State) : s.keepsAllBut [.links, .store] (dropShadow s) := by
  unfold dropShadow
  try dsimp only
  repeat'
    first
      | with_reducible exact keeps_refl _ _
      | with_reducible apply keeps_step (setEvent_keeps _ _)
      | with_reducible apply keeps_step (modStore_keeps _ _)
      | with_reducible refine keeps_foldl (fun _ _ => ?_) ?_
      | with_reducible apply keeps_id
      | split
      | decide

theorem beginSave_keeps (e : Eng) (s : State) : s.keepsAllBut [.store] (beginSave e s) := by
  unfold beginSave
  try dsimp only
  repeat'
    first
      | with_reducible exact keeps_refl _ _
      | with_reducible apply keeps_step (modStore_keeps _ _)
      | with_reducible refine keeps_foldl (fun _ _ => ?_) ?_
      | with_reducible apply keeps_id
      | split
      | decide

theorem saveGood_keeps (s : State) : s.keepsAllBut [.links, .store] (saveGood s) := by
  unfold saveGood
  try dsimp only
  repeat'
    first
      | with_reducible exact keeps_refl _ _
      | with_reducible apply keeps_step (setEvent_keeps _ _)
      | with_reducible apply keeps_step (modStore_keeps _ _)
      | with_reducible refine keeps_foldl (fun _ _ => ?_) ?_
      | with_reducible apply keeps_id
      | split
      | decide

theorem saveFails_keeps (f : SaveFailure) (s : State) : s.keepsAllBut [.faults, .bells, .loop, .links, .store] (saveFails f s) := by
  unfold saveFails
  try dsimp only
  repeat'
    first
      | with_reducible exact keeps_refl _ _
      | with_reducible apply keeps_step (raiseFault_keeps _ _ _)
      | with_reducible apply keeps_step (setEvent_keeps _ _)
      | with_reducible apply keeps_step (modStore_keeps _ _)
      | with_reducible refine keeps_foldl (fun _ _ => ?_) ?_
      | with_reducible apply keeps_id
      | split
      | decide

theorem refresh_keeps (l : LinkId) (s : State) : s.keepsAllBut [.faults, .links] (refresh l s) := by
  unfold refresh
  try dsimp only
  repeat'
    first
      | with_reducible exact keeps_refl _ _
      | with_reducible apply keeps_step (endFault_keeps _ _ _)
      | with_reducible apply keeps_step (setEvent_keeps _ _)
      | with_reducible apply keeps_step (modLink_keeps _ _ _)
      | with_reducible refine keeps_foldl (fun _ _ => ?_) ?_
      | with_reducible apply keeps_id
      | split
      | decide

theorem stageReply_keeps (l : LinkId) (kind : Nat) (a : Answer) (s : State) : s.keepsAllBut [.links] (stageReply l kind a s) := by
  unfold stageReply
  try dsimp only
  repeat'
    first
      | with_reducible exact keeps_refl _ _
      | with_reducible apply keeps_step (modLink_keeps _ _ _)
      | with_reducible refine keeps_foldl (fun _ _ => ?_) ?_
      | with_reducible apply keeps_id
      | split
      | decide

theorem removeRecords_keeps (gone : FaultRec → Bool) (s : State) : s.keepsAllBut [.faults, .links] (removeRecords gone s) := by
  unfold removeRecords
  try dsimp only
  repeat'
    first
      | with_reducible exact keeps_refl _ _
      | with_reducible apply keeps_step (setEvent_keeps _ _)
      | with_reducible apply keeps_step (modFaults_keeps _ _)
      | with_reducible refine keeps_foldl (fun _ _ => ?_) ?_
      | with_reducible apply keeps_id
      | split
      | decide

theorem clearLatched_keeps (s : State) : s.keepsAllBut [.faults, .links] (clearLatched s) := by
  unfold clearLatched
  try dsimp only
  repeat'
    first
      | with_reducible exact keeps_refl _ _
      | with_reducible apply keeps_step (endFault_keeps _ _ _)
      | with_reducible refine keeps_foldl (fun _ _ => ?_) ?_
      | with_reducible apply keeps_id
      | split
      | decide

theorem setCount_keeps (n : Nat) (s : State) : s.keepsAllBut [.floors, .faults, .tracker, .drive, .shutters, .bells, .clock, .plan, .announce, .loop, .analog, .links, .store] (setCount n s) := by
  unfold setCount
  try dsimp only
  repeat'
    first
      | with_reducible exact keeps_refl _ _
      | with_reducible apply keeps_step (replan_keeps _)
      | with_reducible apply keeps_step (pruneExceptions_keeps _)
      | with_reducible apply keeps_step (endFault_keeps _ _ _)
      | with_reducible apply keeps_step (setEvent_keeps _ _)
      | with_reducible apply keeps_step (modClock_keeps _ _)
      | with_reducible refine keeps_foldl (fun _ _ => ?_) ?_
      | with_reducible apply keeps_id
      | split
      | decide

theorem writeExceptions_keeps (day : Nat) (xs : List PlanException) (s : State) : s.keepsAllBut [.floors, .faults, .tracker, .drive, .shutters, .bells, .plan, .announce, .loop, .analog, .links, .store] (writeExceptions day xs s) := by
  unfold writeExceptions
  try dsimp only
  repeat'
    first
      | with_reducible exact keeps_refl _ _
      | with_reducible apply keeps_step (replan_keeps _)
      | with_reducible apply keeps_step (modOp_keeps _ _)
      | with_reducible refine keeps_foldl (fun _ _ => ?_) ?_
      | with_reducible apply keeps_id
      | split
      | decide

theorem closeNow_keeps (s : State) : s.keepsAllBut [.floors, .faults, .tracker, .drive, .shutters, .bells, .plan, .announce, .loop, .analog, .links] (closeNow s) := by
  unfold closeNow
  try dsimp only
  repeat'
    first
      | with_reducible exact keeps_refl _ _
      | with_reducible apply keeps_step (settlePlan_keeps _)
      | with_reducible apply keeps_step (takeClose_keeps _)
      | with_reducible apply keeps_step (takePositions_keeps _ _)
      | with_reducible apply keeps_step (putPlan_keeps _ _)
      | with_reducible apply keeps_step (look_keeps _)
      | with_reducible refine keeps_foldl (fun _ _ => ?_) ?_
      | with_reducible apply keeps_id
      | split
      | decide

theorem cancelOnAir_keeps (p : Playout) (s : State) : s.keepsAllBut [.announce, .store] (cancelOnAir p s) := by
  unfold cancelOnAir
  try dsimp only
  repeat'
    first
      | with_reducible exact keeps_refl _ _
      | with_reducible apply keeps_step (leaveAir_keeps _ _ _)
      | with_reducible apply keeps_step (modPlayout_keeps _ _)
      | with_reducible refine keeps_foldl (fun _ _ => ?_) ?_
      | with_reducible apply keeps_id
      | split
      | decide

theorem discardFrame_keeps (l : LinkId) (s : State) : s.keepsAllBut [.links] (discardFrame l s) := by
  unfold discardFrame
  try dsimp only
  repeat'
    first
      | with_reducible exact keeps_refl _ _
      | with_reducible apply keeps_step (modLink_keeps _ _ _)
      | with_reducible refine keeps_foldl (fun _ _ => ?_) ?_
      | with_reducible apply keeps_id
      | split
      | decide

theorem loseLink_keeps (l : LinkId) (s : State) : s.keepsAllBut [.floors, .faults, .tracker, .drive, .shutters, .bells, .loop, .analog, .links, .store] (loseLink l s) := by
  unfold loseLink
  try dsimp only
  repeat'
    first
      | with_reducible exact keeps_refl _ _
      | with_reducible apply keeps_step (dropShadow_keeps _)
      | with_reducible apply keeps_step (endInching_keeps _)
      | with_reducible apply keeps_step (raiseFault_keeps _ _ _)
      | with_reducible apply keeps_step (setEvent_keeps _ _)
      | with_reducible apply keeps_step (modLink_keeps _ _ _)
      | with_reducible refine keeps_foldl (fun _ _ => ?_) ?_
      | with_reducible apply keeps_id
      | split
      | decide

theorem settleFireInput_keeps (s : State) : s.keepsAllBut [.floors, .faults, .tracker, .drive, .shutters, .bells, .plan, .announce, .loop, .analog, .links, .store] (settleFireInput s) := by
  unfold settleFireInput
  try dsimp only
  repeat'
    first
      | with_reducible exact keeps_refl _ _
      | with_reducible apply keeps_step (alarmChange_keeps _ _)
      | with_reducible apply keeps_step (modFloors_keeps _ _)
      | with_reducible refine keeps_foldl (fun _ _ => ?_) ?_
      | with_reducible apply keeps_id
      | split
      | decide

theorem stillUnconfirmed_keeps (s : State) : s.keepsAllBut [.faults, .tracker, .bells, .loop, .links] (stillUnconfirmed s) := by
  unfold stillUnconfirmed
  try dsimp only
  repeat'
    first
      | with_reducible exact keeps_refl _ _
      | with_reducible apply keeps_step (raiseFault_keeps _ _ _)
      | with_reducible apply keeps_step (modTracker_keeps _ _)
      | with_reducible refine keeps_foldl (fun _ _ => ?_) ?_
      | with_reducible apply keeps_id
      | split
      | decide

theorem rampUp_keeps (limit : Nat) (s : State) : s.keepsAllBut [.drive] (rampUp limit s) := by
  unfold rampUp
  try dsimp only
  repeat'
    first
      | with_reducible exact keeps_refl _ _
      | with_reducible apply keeps_step (modDrive_keeps _ _)
      | with_reducible refine keeps_foldl (fun _ _ => ?_) ?_
      | with_reducible apply keeps_id
      | split
      | decide

theorem readyRises_keeps (s : State) : s.keepsAllBut [.faults, .bells, .announce, .loop, .links, .store] (readyRises s) := by
  unfold readyRises
  try dsimp only
  repeat'
    first
      | with_reducible exact keeps_refl _ _
      | with_reducible apply keeps_step (portFault_keeps _ _)
      | with_reducible apply keeps_step (modPort_keeps _ _)
      | with_reducible refine keeps_foldl (fun _ _ => ?_) ?_
      | with_reducible apply keeps_id
      | split
      | decide

theorem readyFalls_keeps (s : State) : s.keepsAllBut [.announce, .loop, .store] (readyFalls s) := by
  unfold readyFalls
  try dsimp only
  repeat'
    first
      | with_reducible exact keeps_refl _ _
      | with_reducible apply keeps_step (phraseEnded_keeps _)
      | with_reducible apply keeps_step (look_keeps _)
      | with_reducible apply keeps_step (modPort_keeps _ _)
      | with_reducible refine keeps_foldl (fun _ _ => ?_) ?_
      | with_reducible apply keeps_id
      | split
      | decide

theorem sendAbort_keeps (s : State) : s.keepsAllBut [.announce] (sendAbort s) := by
  unfold sendAbort
  try dsimp only
  repeat'
    first
      | with_reducible exact keeps_refl _ _
      | with_reducible apply keeps_step (modPort_keeps _ _)
      | with_reducible refine keeps_foldl (fun _ _ => ?_) ?_
      | with_reducible apply keeps_id
      | split
      | decide

end Sys2Proof.Machine
end

