-- ==== Sys2Proof/Laws/PerInstr.lean ====
section
/-! SUPPORT. The payload of a well-formed request fits a frame: at most 60 bytes, under a KIND below 128 (R177, R178, 11.4). -/

namespace Sys2Proof.Laws

open Machine

theorem be_length (k n : Nat) : (be k n).length = k := by
  induction k generalizing n with
  | zero => rfl
  | succ k ih => simp [be, ih]

theorem flatMap_be_length (k : Nat) (xs : List Nat) : (xs.flatMap (be k)).length = xs.length * k := by
  simp [List.length_flatMap, be_length]

namespace WellFormedFields

/-- A well-formed request has a payload of at most 60 bytes and a KIND below 128. -/
def Statement (i : Instr) : Prop :=
  i.wf = true → ∀ r, i.request? = some r → r.2.1 < 128 ∧ r.2.2.length ≤ 60

theorem powerOnReset (pins : Pins) : Statement (.powerOnReset pins) := by
  rintro - r h
  cases h
theorem externalReset (pins : Pins) : Statement (.externalReset pins) := by
  rintro - r h
  cases h
theorem imageReadDone (memory : List Byte) : Statement (.imageReadDone memory) := by
  rintro - r h
  cases h
theorem loadingTimeout : Statement (.loadingTimeout) := by
  rintro - r h
  cases h
theorem enterSupervising : Statement (.enterSupervising) := by
  rintro - r h
  cases h
theorem requestFrame (l : LinkId) (frame : List Byte) : Statement (.requestFrame l frame) := by
  rintro - r h
  cases h
theorem interCharacterTimeout (l : LinkId) : Statement (.interCharacterTimeout l) := by
  rintro - r h
  cases h
theorem replyDue (l : LinkId) : Statement (.replyDue l) := by
  rintro - r h
  cases h
theorem replyLeadEnd (l : LinkId) : Statement (.replyLeadEnd l) := by
  rintro - r h
  cases h
theorem replySendDone (l : LinkId) : Statement (.replySendDone l) := by
  rintro - r h
  cases h
theorem replyTailEnd (l : LinkId) : Statement (.replyTailEnd l) := by
  rintro - r h
  cases h
theorem linkSupervisionExpiry (l : LinkId) : Statement (.linkSupervisionExpiry l) := by
  rintro - r h
  cases h
theorem attentionHoldoffEnd (l : LinkId) : Statement (.attentionHoldoffEnd l) := by
  rintro - r h
  cases h
theorem readFloors (l : LinkId) (part : Nat) : Statement (.readFloors l part) := by
  rintro - r h
  cases h
  simp [be_length]
theorem readZones (l : LinkId) (part : Nat) : Statement (.readZones l part) := by
  rintro - r h
  cases h
  simp [be_length]
theorem readPaternoster (l : LinkId) (part : Nat) : Statement (.readPaternoster l part) := by
  rintro - r h
  cases h
  simp [be_length]
theorem readShutters (l : LinkId) (first : Nat) : Statement (.readShutters l first) := by
  rintro - r h
  cases h
  simp [be_length]
theorem readCalls (l : LinkId) (first : Nat) : Statement (.readCalls l first) := by
  rintro - r h
  cases h
  simp [be_length]
theorem readBellLines (l : LinkId) (line : Nat) : Statement (.readBellLines l line) := by
  rintro - r h
  cases h
  simp [be_length]
theorem readQueue (l : LinkId) (part slot : Nat) : Statement (.readQueue l part slot) := by
  rintro - r h
  cases h
  simp [be_length]
theorem readFaults (l : LinkId) (first : Nat) : Statement (.readFaults l first) := by
  rintro - r h
  cases h
  simp [be_length]
theorem readClock (l : LinkId) : Statement (.readClock l) := by
  rintro - r h
  cases h
  simp
theorem readPlan (l : LinkId) (part : Nat) : Statement (.readPlan l part) := by
  rintro - r h
  cases h
  simp [be_length]
theorem readAnalog (l : LinkId) (part : Nat) : Statement (.readAnalog l part) := by
  rintro - r h
  cases h
  simp [be_length]
theorem readLink (l : LinkId) (clear : Nat) : Statement (.readLink l clear) := by
  rintro - r h
  cases h
  simp [be_length]
theorem readEvents (l : LinkId) : Statement (.readEvents l) := by
  rintro - r h
  cases h
  simp
theorem ackEvents (l : LinkId) (set : Word) : Statement (.ackEvents l set) := by
  rintro - r h
  cases h
  simp [be_length]
theorem setEventMask (l : LinkId) (mask : Word) : Statement (.setEventMask l mask) := by
  rintro - r h
  cases h
  simp [be_length]
theorem zoneAlarm (l : LinkId) (zone : Nat) : Statement (.zoneAlarm l zone) := by
  rintro - r h
  cases h
  simp [be_length]
theorem zoneClear (l : LinkId) (zone : Nat) : Statement (.zoneClear l zone) := by
  rintro - r h
  cases h
  simp [be_length]
theorem generalAlarmOn (l : LinkId) : Statement (.generalAlarmOn l) := by
  rintro - r h
  cases h
  simp [be_length]
theorem generalAlarmOff (l : LinkId) : Statement (.generalAlarmOff l) := by
  rintro - r h
  cases h
  simp [be_length]
theorem fireSilence (l : LinkId) : Statement (.fireSilence l) := by
  rintro - r h
  cases h
  simp
theorem fireRestore (l : LinkId) : Statement (.fireRestore l) := by
  rintro - r h
  cases h
  simp
theorem fireInputChange (isOpen : Bool) : Statement (.fireInputChange isOpen) := by
  rintro - r h
  cases h
theorem fireInputDebounceEnd : Statement (.fireInputDebounceEnd) := by
  rintro - r h
  cases h
theorem openStore (l : LinkId) : Statement (.openStore l) := by
  rintro - r h
  cases h
  simp
theorem faultClear (l : LinkId) (kind source : Nat) : Statement (.faultClear l kind source) := by
  rintro - r h
  cases h
  simp [be_length]
theorem faultClearAll (l : LinkId) : Statement (.faultClearAll l) := by
  rintro - r h
  cases h
  simp [be_length]
theorem encoderTransition (a b : Bool) : Statement (.encoderTransition a b) := by
  rintro - r h
  cases h
theorem indexPulse : Statement (.indexPulse) := by
  rintro - r h
  cases h
theorem speedWindowEnd : Statement (.speedWindowEnd) := by
  rintro - r h
  cases h
theorem quietTimeExpiry : Statement (.quietTimeExpiry) := by
  rintro - r h
  cases h
theorem brakeApplied8s : Statement (.brakeApplied8s) := by
  rintro - r h
  cases h
theorem paternosterStart (l : LinkId) : Statement (.paternosterStart l) := by
  rintro - r h
  cases h
  simp
theorem accelRampStep : Statement (.accelRampStep) := by
  rintro - r h
  cases h
theorem levelProfileEval : Statement (.levelProfileEval) := by
  rintro - r h
  cases h
theorem paternosterStop (l : LinkId) : Statement (.paternosterStop l) := by
  rintro - r h
  cases h
  simp
theorem fireDeadlineExpiry : Statement (.fireDeadlineExpiry) := by
  rintro - r h
  cases h
theorem stopNow (l : LinkId) : Statement (.stopNow l) := by
  rintro - r h
  cases h
  simp
theorem haltReset (l : LinkId) : Statement (.haltReset l) := by
  rintro - r h
  cases h
  simp
theorem inch (l : LinkId) (direction : Nat) : Statement (.inch l direction) := by
  rintro - r h
  cases h
  simp [be_length]
theorem inchRampStep : Statement (.inchRampStep) := by
  rintro - r h
  cases h
theorem inchLeaseExpiry : Statement (.inchLeaseExpiry) := by
  rintro - r h
  cases h
theorem dropTimerExpiry (shutter : Nat) : Statement (.dropTimerExpiry shutter) := by
  rintro - r h
  cases h
theorem travelTimerExpiry (shutter : Nat) : Statement (.travelTimerExpiry shutter) := by
  rintro - r h
  cases h
theorem shutterTest (l : LinkId) (shutter : Nat) : Statement (.shutterTest l shutter) := by
  rintro - r h
  cases h
  simp [be_length]
theorem shutterRaise (l : LinkId) (shutter : Nat) : Statement (.shutterRaise l shutter) := by
  rintro - r h
  cases h
  simp [be_length]
theorem shutterInhibitOn (l : LinkId) (shutter : Nat) : Statement (.shutterInhibitOn l shutter) := by
  rintro - r h
  cases h
  simp [be_length]
theorem shutterInhibitOff (l : LinkId) (shutter : Nat) : Statement (.shutterInhibitOff l shutter) := by
  rintro - r h
  cases h
  simp [be_length]
theorem strokeStart (line : Nat) : Statement (.strokeStart line) := by
  rintro - r h
  cases h
theorem strokeEnd (line : Nat) : Statement (.strokeEnd line) := by
  rintro - r h
  cases h
theorem patternEnd (line : Nat) : Statement (.patternEnd line) := by
  rintro - r h
  cases h
theorem fireRingStroke (line : Nat) : Statement (.fireRingStroke line) := by
  rintro - r h
  cases h
theorem callRepeatDue (callId : Nat) : Statement (.callRepeatDue callId) := by
  rintro - r h
  cases h
theorem writeCode (l : LinkId) (code count : Nat) (strokes : List Nat) (mask : Word) : Statement (.writeCode l code count strokes mask) := by
  rintro h r ⟨rfl⟩
  simp [Instr.wf] at h
  simp [be_length]
  try omega
theorem cancelCall (l : LinkId) (callPoint : Nat) : Statement (.cancelCall l callPoint) := by
  rintro - r h
  cases h
  simp [be_length]
theorem clearCalls (l : LinkId) : Statement (.clearCalls l) := by
  rintro - r h
  cases h
  simp
theorem secondTick : Statement (.secondTick) := by
  rintro - r h
  cases h
theorem positionWaitExpiry : Statement (.positionWaitExpiry) := by
  rintro - r h
  cases h
theorem setClock (l : LinkId) (count : Nat) : Statement (.setClock l count) := by
  rintro - r h
  cases h
  simp [be_length]
theorem writeSchedule (l : LinkId) (weekday closing : Nat) : Statement (.writeSchedule l weekday closing) := by
  rintro - r h
  cases h
  simp [be_length]
theorem writeException (l : LinkId) (day closing : Nat) : Statement (.writeException l day closing) := by
  rintro - r h
  cases h
  simp [be_length]
theorem writePlan (l : LinkId) (w1 w2 stagger : Nat) (order : List Nat) : Statement (.writePlan l w1 w2 stagger order) := by
  rintro h r ⟨rfl⟩
  simp [Instr.wf] at h
  simp [be_length]
  try omega
theorem holdClosing (l : LinkId) (minutes : Nat) : Statement (.holdClosing l minutes) := by
  rintro - r h
  cases h
  simp [be_length]
theorem closeNow (l : LinkId) : Statement (.closeNow l) := by
  rintro - r h
  cases h
  simp
theorem writeScript (l : LinkId) (slot mask : Nat) (phrases : List Nat) : Statement (.writeScript l slot mask phrases) := by
  rintro h r ⟨rfl⟩
  simp [Instr.wf] at h
  simp [be_length]
  try omega
theorem queueAnnouncement (l : LinkId) (slot : Nat) : Statement (.queueAnnouncement l slot) := by
  rintro - r h
  cases h
  simp [be_length]
theorem cancelAnnouncement (l : LinkId) (slot : Nat) : Statement (.cancelAnnouncement l slot) := by
  rintro - r h
  cases h
  simp [be_length]
theorem playoutLeadEnd : Statement (.playoutLeadEnd) := by
  rintro - r h
  cases h
theorem playoutGapEnd : Statement (.playoutGapEnd) := by
  rintro - r h
  cases h
theorem playoutTailEnd : Statement (.playoutTailEnd) := by
  rintro - r h
  cases h
theorem evacGapExpiry : Statement (.evacGapExpiry) := by
  rintro - r h
  cases h
theorem playerExchangeEnd (status : Word) : Statement (.playerExchangeEnd status) := by
  rintro - r h
  cases h
theorem playerReadyChange (high : Bool) : Statement (.playerReadyChange high) := by
  rintro - r h
  cases h
theorem startTimerExpiry : Statement (.startTimerExpiry) := by
  rintro - r h
  cases h
theorem phraseTimerExpiry : Statement (.phraseTimerExpiry) := by
  rintro - r h
  cases h
theorem abortWaitExpiry : Statement (.abortWaitExpiry) := by
  rintro - r h
  cases h
theorem playerRecovery : Statement (.playerRecovery) := by
  rintro - r h
  cases h
theorem playerStartUpCheck : Statement (.playerStartUpCheck) := by
  rintro - r h
  cases h
theorem scanStart : Statement (.scanStart) := by
  rintro - r h
  cases h
theorem scanEnd (returned : Word) (inputs : List Byte) : Statement (.scanEnd returned inputs) := by
  rintro - r h
  cases h
theorem analogSample (samples : List Int) : Statement (.analogSample samples) := by
  rintro - r h
  cases h
theorem analogBlankingEnd (channel : Nat) : Statement (.analogBlankingEnd channel) := by
  rintro - r h
  cases h
theorem configBegin (l : LinkId) : Statement (.configBegin l) := by
  rintro - r h
  cases h
  simp
theorem configWrite (l : LinkId) (sect offset : Nat) (bytes : List Byte) : Statement (.configWrite l sect offset bytes) := by
  rintro h r ⟨rfl⟩
  simp [Instr.wf] at h
  simp [be_length]
  try omega
theorem configAbort (l : LinkId) : Statement (.configAbort l) := by
  rintro - r h
  cases h
  simp
theorem configEnd (l : LinkId) : Statement (.configEnd l) := by
  rintro - r h
  cases h
  simp
theorem configSave (l : LinkId) : Statement (.configSave l) := by
  rintro - r h
  cases h
  simp
theorem savePageReady : Statement (.savePageReady) := by
  rintro - r h
  cases h
theorem saveBusyTimeout : Statement (.saveBusyTimeout) := by
  rintro - r h
  cases h
theorem saveReadbackDone (memory : List Byte) : Statement (.saveReadbackDone memory) := by
  rintro - r h
  cases h
theorem saveTimeLimit : Statement (.saveTimeLimit) := by
  rintro - r h
  cases h
theorem characterReceived (l : LinkId) (mark : Bool) (byte : Byte) (stopOk : Bool) : Statement (.characterReceived l mark byte stopOk) := by
  rintro - r h
  cases h
theorem lineStartBitSeen (l : LinkId) : Statement (.lineStartBitSeen l) := by
  rintro - r h
  cases h

end WellFormedFields

end Sys2Proof.Laws
end

