-- ==== Sys2Proof/Laws/Shared.lean ====
section
/-! SUPPORT. What two shared operations do, said once: `reboard`, which derives the boarding lamps (R14), and `serveLine`, the arbiter
of a bell line (R109). -/

namespace Sys2Proof.Laws

open Sys2Proof.Machine

/-! ### Output points -/

@[simp] theorem writePoint_floors (p : Nat) (on : Bool) (s : State) : (writePoint p on s).floors = s.floors := rfl
@[simp] theorem writePoint_drive (p : Nat) (on : Bool) (s : State) : (writePoint p on s).drive = s.drive := rfl
@[simp] theorem writePoint_store (p : Nat) (on : Bool) (s : State) : (writePoint p on s).store = s.store := rfl
@[simp] theorem writePoint_bells (p : Nat) (on : Bool) (s : State) : (writePoint p on s).bells = s.bells := rfl
@[simp] theorem writePoint_loop (p : Nat) (on : Bool) (s : State) :
    (writePoint p on s).loop = { s.loop with out := s.loop.out.set p on } := rfl

/-- A point written reads as written. -/
theorem outPoint_writePoint_same (p : Nat) (on : Bool) (s : State) (h : p < s.loop.out.length) :
    (writePoint p on s).outPoint p = on := by
  simp [State.outPoint, h]

/-- Any other point reads as before. -/
theorem outPoint_writePoint_other (p q : Nat) (on : Bool) (s : State) (h : p ≠ q) :
    (writePoint p on s).outPoint q = s.outPoint q := by
  simp [State.outPoint, h]

/-- Writing several points leaves everything but the output image, and its length, as it was. -/
theorem writePoints_frame (ps : List Nat) (on : Bool) (s : State) :
    (writePoints ps on s).floors = s.floors ∧ (writePoints ps on s).drive = s.drive ∧
      (writePoints ps on s).store = s.store ∧ (writePoints ps on s).loop.out.length = s.loop.out.length := by
  induction ps generalizing s with
  | nil => exact ⟨rfl, rfl, rfl, rfl⟩
  | cons p ps ih => simpa [writePoints] using ih (writePoint p on s)

theorem outPoint_writePoints_other (ps : List Nat) (q : Nat) (on : Bool) (s : State) (h : q ∉ ps) :
    (writePoints ps on s).outPoint q = s.outPoint q := by
  induction ps generalizing s with
  | nil => rfl
  | cons p ps ih =>
    simp only [List.mem_cons, not_or] at h
    exact (ih (writePoint p on s) h.2).trans (outPoint_writePoint_other p q on s (Ne.symm h.1))

theorem outPoint_writePoints_same (ps : List Nat) (q : Nat) (on : Bool) (s : State) (h : q ∈ ps)
    (hq : q < s.loop.out.length) : (writePoints ps on s).outPoint q = on := by
  induction ps generalizing s with
  | nil => cases h
  | cons p ps ih =>
    by_cases hp : q ∈ ps
    · exact ih (writePoint p on s) hp (by simpa using hq)
    · obtain rfl : q = p := by simpa [hp] using h
      exact (outPoint_writePoints_other ps q on (writePoint q on s) hp).trans (outPoint_writePoint_same q on s hq)

/-! ### The boarding lamps (R14) -/

/-- The lamp points of the floors of a list, written one floor after the other. -/
theorem lampFold (pts : Nat → List Nat) (v : Nat → Bool) (is : List Nat) (s : State) :
    let t := is.foldl (fun u i => writePoints (pts i) (v i) u) s
    (t.floors = s.floors ∧ t.drive = s.drive ∧ t.store = s.store ∧ t.loop.out.length = s.loop.out.length) ∧
      (∀ q, (∀ i ∈ is, q ∉ pts i) → t.outPoint q = s.outPoint q) ∧
      ((∀ i ∈ is, ∀ j ∈ is, i ≠ j → ∀ q ∈ pts i, q ∉ pts j) →
        ∀ i ∈ is, ∀ q ∈ pts i, q < s.loop.out.length → t.outPoint q = v i) := by
  induction is generalizing s with
  | nil => exact ⟨⟨rfl, rfl, rfl, rfl⟩, fun _ _ => rfl, fun _ _ h => by cases h⟩
  | cons a as ih =>
    obtain ⟨⟨f1, f2, f3, f4⟩, other, same⟩ := ih (writePoints (pts a) (v a) s)
    obtain ⟨w1, w2, w3, w4⟩ := writePoints_frame (pts a) (v a) s
    refine ⟨⟨f1.trans w1, f2.trans w2, f3.trans w3, f4.trans w4⟩, fun q h => ?_, fun apart i hi q hq hl => ?_⟩
    · exact (other q fun i hi => h i (List.mem_cons_of_mem a hi)).trans
        (outPoint_writePoints_other _ q _ s (h a List.mem_cons_self))
    · by_cases hin : i ∈ as
      · exact same (fun i hi j hj => apart i (List.mem_cons_of_mem a hi) j (List.mem_cons_of_mem a hj)) i hin q hq
          (by simpa only [w4] using hl)
      · obtain rfl : i = a := by simpa [hin] using hi
        refine (other q fun j hj => apart i hi j (List.mem_cons_of_mem i hj) (fun e => hin (e ▸ hj)) q hq).trans ?_
        exact outPoint_writePoints_same _ q _ s hq hl

/-- What `reboard` does: the boarding field of every floor is derived from the drive's state and the floor's mode, nothing else of the
floors and the drive changes, and the boarding fields and the output image agree with R14. -/
theorem reboard_spec (s : State) :
    (reboard s).drive = s.drive ∧
      (reboard s).floors = { s.floors with
        table := s.floors.table.map fun f => { f with lit := lampsLit s.drive.state f.mode } } ∧
      (reboard s).lampsAgree ∧ (s.lampsApart → (reboard s).lampsShown) := by
  let t := s.modFloors fun ft => { ft with table := ft.table.map fun f => { f with lit := lampsLit s.drive.state f.mode } }
  have key := lampFold s.lampPoints (fun i => (t.floors.table[i]?).any (·.lit)) (List.range t.floors.table.length) t
  obtain ⟨⟨floors, drive, stores, -⟩, -, same⟩ := key
  change (reboard s).floors = t.floors at floors
  change (reboard s).drive = t.drive at drive
  change (reboard s).store = t.store at stores
  refine ⟨drive, floors, fun f hf => ?_, fun apart f fl hf p hp => ?_⟩
  · rw [floors] at hf
    rw [drive]
    obtain ⟨g, -, rfl⟩ := List.mem_map.mp hf
    change lampsLit s.drive.state g.mode = false ↔ s.drive.state = .run ∧ _
    cases s.drive.state <;> cases g.mode <;> simp [lampsLit]
  · have points : (reboard s).lampPoints f = s.lampPoints f := by
      unfold State.lampPoints State.eng
      rw [stores]
      rfl
    rw [points] at hp
    rw [floors] at hf
    have hlen : t.floors.table.length = s.floors.table.length := List.length_map ..
    have hlt : f < s.floors.table.length := hlen ▸ (List.getElem?_eq_some_iff.mp hf).1
    have out : t.loop.out = s.loop.out := rfl
    have : Std.Symm fun f g => ∀ p ∈ s.lampPoints f, p ∉ s.lampPoints g := ⟨fun a b h p hp hq => h p hq hp⟩
    have := same (fun i hi j hj ne => apart.2.forall (by simpa [hlen] using hi) (by simpa [hlen] using hj) ne)
      f (by simpa [hlen] using hlt) p hp (by rw [out]; exact apart.1 f hlt p hp)
    refine this.trans ?_
    simp only [hf, Option.any_some]

/-! ### The arbiter of a line (R109) -/

/-- The line of a number after an update of one line. -/
theorem line?_modLine (m n : Nat) (g : Line → Line) (s : State) (hg : ∀ l, (g l).num = l.num) :
    (s.modLine n g).line? m = if m = n then (s.line? n).map g else s.line? m := by
  have key : ∀ ls : List Line, (ls.map fun l => if l.num == n then g l else l).find? (fun l => l.num == m) =
      if m = n then (ls.find? fun l => l.num == n).map g else ls.find? fun l => l.num == m := by
    intro ls
    induction ls with
    | nil => simp
    | cons l ls ih =>
      simp only [List.map_cons, List.find?_cons, ih]
      by_cases hl : l.num = n
      · by_cases hm : m = n
        · simp [hl, hm, hg]
        · simp [hl, hm, hg, beq_false_of_ne (Ne.symm hm)]
      · by_cases hm : m = n
        · simp [hm, beq_false_of_ne hl]
        · simp [hm, beq_false_of_ne hl]
  exact key s.bells.lines

@[simp] theorem line?_writePoint (m p : Nat) (on : Bool) (s : State) : (writePoint p on s).line? m = s.line? m := rfl

/-- What the arbiter of a NORMAL idle line does (R109, R113). -/
theorem serveLine_spec (n : Nat) (k : Line) (s : State) (h : s.line? n = some k) (hf : k.faulted = false)
    (hi : k.activity = .idle) :
    s.keepsAllBut [.bells, .loop] (serveLine n s) ∧ (serveLine n s).bells.calls = s.bells.calls ∧
      s.lineServed n k s.loop.out (serveLine n s) := by
  have stay : { k with activity := .idle } = k := by cases k; cases hi; rfl
  cases hr : s.ringApplies
  · cases hq : k.queue with
    | nil =>
      have e : serveLine n s = s := by simp [serveLine, h, hf, hi, hr, hq]
      rw [e]
      exact ⟨⟨rfl, fun b => .inr (by cases b <;> rfl)⟩, rfl, fun _ _ => rfl, by simp [hr], by simp [hq],
        fun _ _ => ⟨rfl, h.trans (by rw [stay])⟩⟩
    | cons r rest =>
      have e : serveLine n s = beginPattern n r rest s := by simp [serveLine, h, hf, hi, hr, hq]
      rw [e]
      refine ⟨⟨rfl, fun b => by cases b <;> first | exact .inl (by decide) | exact .inr rfl⟩, rfl, fun m hm => ?_,
        by simp [hr], fun r' rest' _ hq' => ⟨rfl, ?_⟩, by simp [hq]⟩
      · simp [beginPattern, strokeOn, line?_modLine, hm]
      · obtain ⟨rfl, rfl⟩ : r = r' ∧ rest = rest' := by simpa [hq] using hq'
        simp [beginPattern, strokeOn, line?_modLine, h]
  · have e : serveLine n s = beginRing n s := by simp [serveLine, h, hf, hi, hr]
    rw [e]
    refine ⟨⟨rfl, fun b => by cases b <;> first | exact .inl (by decide) | exact .inr rfl⟩, rfl, fun m hm => ?_,
      fun _ => ⟨rfl, ?_⟩, by simp [hr], by simp [hr]⟩
    · simp [beginRing, strokeOn, line?_modLine, hm]
    · simp [beginRing, strokeOn, line?_modLine, h]

/-- A line is served from `s` where it is served from a state that differs from `s` in that line and the output image alone; the
activity that the line had does not count. -/
theorem lineServed_of (n : Nat) (a : Activity) (x : Line) (out : List Bool) (s t u : State)
    (other : ∀ m, m ≠ n → t.line? m = s.line? m) (ring : t.ringApplies = s.ringApplies)
    (loop : t.loop = { s.loop with out := out }) (stores : t.store = s.store)
    (h : t.lineServed n { x with activity := a } t.loop.out u) : s.lineServed n x out u := by
  obtain ⟨others, rings, begins, idle⟩ := h
  have point : t.drivePoint n = s.drivePoint n := by unfold State.drivePoint State.eng; rw [stores]
  have groups : ∀ c, t.codeGroups c = s.codeGroups c := by intro c; unfold State.codeGroups; rw [stores]
  simp only [ring, loop, point, groups] at others rings begins idle
  exact ⟨fun m hm => (others m hm).trans (other m hm), rings, begins, idle⟩

end Sys2Proof.Laws
end

