-- ==== Sys2Proof/Laws/Shutters.lean ====
section
/-! SUPPORT. What putting a shutter's record does, said once: the table, the slots and the lists of the Shutter Controller, and the
conditions on which the rules of chapter 4 depend, which it leaves as they were. -/

namespace Sys2Proof.Laws

open Sys2Proof.Machine

/-! ### Operations that write nothing but output points -/

/-- From `s` to `t` the output image alone changes in the field loop. -/
def OutOnly (s t : State) : Prop := t.loop = { s.loop with out := t.loop.out }

theorem OutOnly.of_eq {s t : State} (h : t.loop = s.loop) : OutOnly s t := by rw [OutOnly, h]

theorem OutOnly.trans {s t u : State} (h : OutOnly s t) (g : OutOnly t u) : OutOnly s u := by
  rw [OutOnly, g, h]

theorem outOnly_keeps {s t : State} {L : List Block} (h : s.keepsAllBut L t) (hl : Block.loop ∉ L) : OutOnly s t :=
  .of_eq (h.same .loop hl)

theorem outOnly_writePoint (p : Nat) (on : Bool) (s : State) : OutOnly s (writePoint p on s) := rfl

theorem outOnly_foldl {α : Type} (f : State → α → State) (h : ∀ u x, OutOnly u (f u x)) (xs : List α) (s : State) :
    OutOnly s (xs.foldl f s) := by
  induction xs generalizing s with
  | nil => exact .of_eq rfl
  | cons x xs ih => exact (h s x).trans (ih _)

theorem outOnly_reboard (s : State) : OutOnly s (reboard s) := by
  unfold reboard
  exact .trans (.of_eq rfl) (outOnly_foldl _ (fun u i => outOnly_foldl _ (fun v p => outOnly_writePoint p _ v) _ u) _ _)

theorem outOnly_setMode (f : Nat) (m : FloorMode) (s : State) : OutOnly s (setMode f m s) := by
  unfold setMode
  exact .trans (.of_eq rfl) (outOnly_reboard _)

theorem outOnly_finishTest (f : Nat) (s : State) : OutOnly s (finishTest f s) := by
  unfold finishTest
  repeat' split
  all_goals first
    | exact outOnly_setMode _ _ s
    | exact .of_eq rfl

theorem outOnly_writeShutter (i : Nat) (sh : Shutter) (s : State) : OutOnly s (writeShutter i sh s) := rfl

/-! ### Putting a record (R68, R73, R81) -/

/-- The slots after a slot of shutter `i`, if it holds one, has become free. -/
def freed (i : Nat) (t : Shutters) : List (Option Grant) :=
  match t.slotOf i with
  | none => t.slots
  | some k => t.slots.set k none

theorem freeSlot_shutters (i : Nat) (s : State) : (freeSlot i s).shutters = { s.shutters with slots := freed i s.shutters } := by
  unfold freeSlot freed
  split <;> simp_all

/-- What putting a record does to the Shutter Controller: the record with its since, the waiting list and the WAIT_STILL order, and the
slot of a shutter that leaves its powered travel. -/
theorem putShutter_shutters (i : Nat) (old new : Shutter) (s : State) (h : s.shutter? i = some old) :
    (putShutter i new s).shutters =
      { table := s.shutters.table.set i (if old.state.sameState new.state then new else { new with since := s.clock.count })
        waitList := relist i old.state.waiting new.state.waiting s.shutters.waitList
        stillList := relist i old.state.inWaitStill new.state.inWaitStill s.shutters.stillList
        slots := if old.state.powered && !new.state.powered then freed i s.shutters else s.shutters.slots } := by
  have tail : ∀ (x : State) (L : List Block) (y : State), x.keepsAllBut L y → Block.shutters ∉ L → y.shutters = x.shutters :=
    fun x L y k hL => k.same .shutters hL
  simp only [putShutter, h]
  cases hm : old.state.sameState new.state <;> cases hp : (old.state.powered && !new.state.powered) <;>
    simp only [Bool.not_true, Bool.not_false, if_true, if_false, Bool.false_eq_true]
  all_goals
    repeat' first
      | rw [tail _ _ _ (finishTest_keeps _ _) (by decide)]
      | rw [tail _ _ _ (endFault_keeps _ _ _) (by decide)]
      | rw [tail _ _ _ (setEventIf_keeps _ _ _) (by decide)]
      | rw [tail _ _ _ (writeShutter_keeps _ _ _) (by decide)]
      | rw [freeSlot_shutters]
      | rw [modShutters_shutters]
      | split
  all_goals rfl

theorem outOnly_putShutter (i : Nat) (new : Shutter) (s : State) : OutOnly s (putShutter i new s) := by
  have event : ∀ (c : Bool) (e : Event) (u : State), OutOnly u (setEventIf c e u) := fun c e u =>
    outOnly_keeps (setEventIf_keeps c e u) (by decide)
  have slot : ∀ (b : Bool) (f : Shutters → Shutters), OutOnly s ((if b then freeSlot i else id) (s.modShutters f)) := by
    intro b f
    cases b
    · exact .of_eq rfl
    · exact OutOnly.trans (t := s.modShutters f) (.of_eq rfl) (outOnly_keeps (freeSlot_keeps i _) (by decide))
  unfold putShutter
  cases s.shutter? i with
  | none => exact .of_eq rfl
  | some old =>
    have base := fun b f n c d => ((slot b f).trans (outOnly_writeShutter i n _)).trans ((event c .shutter _).trans (event d .shutterFault _))
    dsimp only
    split
    · refine .trans ?_ (outOnly_finishTest _ _)
      split
      · exact .trans (base _ _ _ _ _) (outOnly_keeps (endFault_keeps _ _ _) (by decide))
      · exact base _ _ _ _ _
    · exact base _ _ _ _ _

theorem outOnly_changeShutter (i : Nat) (g : Shutter → Shutter) (s : State) : OutOnly s (changeShutter i g s) := by
  unfold changeShutter
  split
  · exact .of_eq rfl
  · exact outOnly_putShutter _ _ _

/-- The record of a shutter after one was put. -/
theorem shutter?_putShutter (i j : Nat) (old new : Shutter) (s : State) (h : s.shutter? i = some old) :
    (putShutter i new s).shutter? j =
      if j = i then some (if old.state.sameState new.state then new else { new with since := s.clock.count }) else s.shutter? j := by
  have hi : i < s.shutters.table.length := (List.getElem?_eq_some_iff.mp h).1
  simp only [State.shutter?, putShutter_shutters i old new s h, List.getElem?_set]
  by_cases e : i = j
  · subst e; simp [hi]
  · simp [e, Ne.symm e]

/-- The record of a shutter after one was changed. -/
theorem shutter?_changeShutter (i j : Nat) (g : Shutter → Shutter) (s : State) :
    (changeShutter i g s).shutter? j = (s.shutter? j).map fun old =>
      if j = i then (if old.state.sameState (g old).state then g old else { g old with since := s.clock.count }) else old := by
  unfold changeShutter
  cases h : s.shutter? i with
  | none =>
    cases hj : s.shutter? j with
    | none => simp
    | some old =>
      have : j ≠ i := by rintro rfl; simp [h] at hj
      simp [this]
  | some old =>
    simp only [shutter?_putShutter i j old (g old) s h]
    by_cases e : j = i
    · subst e; simp [h]
    · simp [e]

end Sys2Proof.Laws
end

