-- ==== Sys2Proof/Tests/Slice0.lean ====
section
/-! SUPPORT. Tests: an ill-formed term for each check of WellFormed, the spec's worked examples on small states, and, for every
obligation with hypotheses, a witness that meets them, clause by clause. -/

namespace Sys2Proof.Tests

open Sys2Proof Sys2Proof.Machine

-- One test after the other: many kernel evaluations at once take more threads than the memory limit of a compile holds.
set_option Elab.async false

/-! ### WellFormed refuses what cannot arise -/

theorem test_wf_address : (Instr.powerOnReset ⟨32, 0, 0, 0, false, false, false, false⟩).wf = false := by decide
theorem test_wf_rate : (Instr.externalReset ⟨31, 0, 4, 0, false, false, false, false⟩).wf = false := by decide
theorem test_wf_memory : (Instr.imageReadDone (List.replicate 8193 0)).wf = false := by decide +kernel
theorem test_wf_frame_short : (Instr.requestFrame .F [0, 9, 0]).wf = false := by decide
theorem test_wf_frame_long : (Instr.requestFrame .F (List.replicate 65 0)).wf = false := by decide
theorem test_wf_byte : (Instr.zoneAlarm .F 256).wf = false := by decide
theorem test_wf_queue : (Instr.readQueue .F 0 256).wf = false := by decide
theorem test_wf_fault : (Instr.faultClear .E 0 256).wf = false := by decide
theorem test_wf_shutter : (Instr.dropTimerExpiry 32).wf = false := by decide
theorem test_wf_line : (Instr.strokeEnd 9).wf = false := by decide
theorem test_wf_call : (Instr.callRepeatDue 0).wf = false ∧ (Instr.callRepeatDue 65536).wf = false := by decide
theorem test_wf_code : (Instr.writeCode .O 4 1 [1, 0, 0] 0).wf = false := by decide
theorem test_wf_clock : (Instr.setClock .O 4294967296).wf = false := by decide
theorem test_wf_schedule : (Instr.writeSchedule .O 256 0).wf = false := by decide
theorem test_wf_exception : (Instr.writeException .O 0 4294967296).wf = false := by decide
theorem test_wf_plan : (Instr.writePlan .O 0 0 65536 []).wf = false ∧ (Instr.writePlan .O 0 0 0 [256]).wf = false := by decide
theorem test_wf_script : (Instr.writeScript .O 0 256 [1]).wf = false ∧
    (Instr.writeScript .O 0 1 (List.replicate 30 0)).wf = false := by decide
theorem test_wf_scan : (Instr.scanEnd 0 (List.replicate 25 0)).wf = false := by decide
theorem test_wf_samples : (Instr.analogSample [0, 0, 0, 0, 0]).wf = false := by decide
theorem test_wf_channel : (Instr.analogBlankingEnd 6).wf = false := by decide
theorem test_wf_config : (Instr.configWrite .E 1 65536 [0]).wf = false ∧
    (Instr.configWrite .E 1 0 (List.replicate 58 0)).wf = false := by decide

/-! ### A small installation: two floors, two shutters, two call points, two motor slots -/

/-- A shutter entry that is not in use. -/
def noShutter : ShutterCfg := ⟨0, 0, 0, 0, 0, 0, 0, 0, 0, 0, 0⟩

/-- The engineering part of the tests; shutter 1 guards a paternoster opening of floor 1. -/
def eng : Eng :=
  { Eng.zero with
    floorCount := 2, zoneFloors := [0, 1, 0, 1, 0, 1, 0, 1, 0, 1, 0, 1, 0, 1, 0, 1]
    lamps := [0, 1, 2, 3, 0, 0, 0, 0, 0, 0, 0, 0, 0, 0, 0, 0], speakers := [4, 5, 0, 0, 0, 0, 0, 0]
    cars := 4, pitch := 64, phase := 10, slip := 4, landings := [10, 74, 138, 202, 0, 0, 0, 0, 0, 0, 0, 0, 0, 0, 0, 0]
    vRun := 120, vCreep := 12, vFull := 150, vInch := 30, accel := 40, levelTol := 4, fireDeadline := 20
    trips := [0, 1, 2, 3, 0, 0, 0, 0, 0, 0, 0, 0, 0, 0, 0, 0], reversePt := 6
    slotCount := 2, shutterCount := 2
    shutters := [⟨0, 0, 255, 1, 20, 60, 4, 5, 7, 8, 9⟩, ⟨1, 3, 0, 2, 20, 60, 6, 7, 10, 11, 12⟩] ++ List.replicate 30 noShutter
    tRepeat := 60, nRepeat := 3, callCount := 2, callPoints := [⟨16, 0, 4⟩, ⟨17, 1, 5⟩] ++ List.replicate 62 ⟨0, 0, 0⟩
    lines := [⟨13, 8, 9⟩, ⟨14, 10, 11⟩, ⟨0, 0, 0⟩, ⟨0, 0, 0⟩, ⟨0, 0, 0⟩, ⟨0, 0, 0⟩, ⟨0, 0, 0⟩, ⟨0, 0, 0⟩, ⟨15, 12, 0⟩]
    modules := 3, linkF := ⟨30, 11, 4⟩, linkO := ⟨30, 11, 4⟩, linkE := ⟨30, 11, 4⟩
    analog := [⟨0, 900, 4, 20⟩, ⟨0, 900, 4, 20⟩, ⟨0, 900, 4, 20⟩, ⟨0, 900, 4, 20⟩, ⟨0, 900, 4, 20⟩, ⟨700, 900, 4, 20⟩]
    trim := 0, epoch := 3 }

/-- The operating part of the tests. -/
def op : Op :=
  { Op.default with
    schedule := [none, none, none, none, some 64800, none, none], w1 := 15, w2 := 5, stagger := 120, order := [1, 0]
    scripts := [some ⟨[1], 3⟩, some ⟨[2], 3⟩, some ⟨[3], 3⟩, none, some ⟨[210, 211], 3⟩, none, none, some ⟨[900], 3⟩] }

/-- A floor of the tests. -/
def floor (m : FloorMode) (place : Nat) : Floor := ⟨m, none, 0, place, true⟩

/-- A link of the tests: ACTIVE, with STARTUP latched. -/
def link : Link := { Link.startUp 0 with state := .active, latches := 0x8000, attention := .asserted }

/-- The store trading on day 20,000 at 09:00: floors OPEN, shutters OPEN, the chain at rest and referenced. -/
def store : State :=
  { State.startUp Pins.usual ⟨1728032400, true, 0, 32768, 0⟩ 0 with
    floors :=
      { table := [floor .opened 1, floor .opened 0]
        zones := (List.range 16).map fun z => ⟨false, z % 2, 0⟩
        gaFlag := false, pinOpen := false, inputAlarm := false, debounceLeft := none, settled := true, silence := false }
    tracker := { Tracker.startUp false false with referenced := true, counter := 100, quietTime := 500, still := true }
    shutters := ⟨List.replicate 2 ⟨.opened, true, false, 0, false⟩, [none, none], [], []⟩
    bells := ⟨[0, 1, 8].map fun n => ⟨n, false, .idle, false, 0, 0, [], none⟩, [], 1, []⟩
    plan := { Plan.blank 20000 with baseClose := some 1728064800, status := .waiting }
    announce := ⟨List.replicate 8 none, [], none, none, { Port.startUp false with state := .idle, faultCause := none }⟩
    loop := { Loop.startUp with good := true, debounced := (List.range 192).map fun p => p == 4 || p == 6 }
    links := ⟨1, link, link, link⟩
    store := { Store.startUp 0 with state := .supervising, eng := some eng, op := op, loadResult := .good } }

/-- The same with another drive record. -/
def withDrive (d : Drive) (still : Bool) : State :=
  { store with drive := d, tracker := { store.tracker with still := still, quietTime := 0 } }

/-- The drive in a state that moves the chain, at a speed. -/
def moving (st : DriveState) (v : Nat) : Drive :=
  { Drive.startUp with state := st, vRef := v, released := true, enable := true, sinceRelease := 1000 }

/-- A levelled stop in phase TRAVEL. -/
def levelled (r : Nat) (deadline : Option Nat) : Drive :=
  { moving .level 120 with level := some ⟨120, 180, 230, r, .travel, deadline, 0, false, 0⟩ }

/-- A levelled stop in phase SETTLING, with an overrun of 3. -/
def settling : Drive := { Drive.startUp with state := .level, level := some ⟨120, 180, 230, 0, .settling, none, 3, false, 0⟩ }

/-- The BRAKE that ends inching in reverse, begun from a HALT for a trip. -/
def inchEnded : Drive :=
  { Drive.startUp with
    state := .brake, brakeExit := some .halt, stopCause := some .inchEnd, haltCause := some .trip, inchOrigin := some .halt
    reverse := true }

/-- The chain referenced and moving, its travel since the index as given, with a drive record. -/
def sinceIndex (d : Drive) (n : Nat) : State :=
  { store with drive := d, tracker := { store.tracker with still := false, quietTime := 0, travel := n } }

/-- The same with other shutters. -/
def withShutter (st : ShutterState) (hold : Bool) : State :=
  { store with shutters := { store.shutters with table := [⟨st, hold, false, 0, false⟩, ⟨.opened, true, false, 0, false⟩] } }

/-- The same with another record of line 0. -/
def withLine (l : Line) : State :=
  { store with bells := { store.bells with lines := l :: (store.bells.lines.drop 1) } }

/-- Line 0 sounding its first stroke of a pattern. -/
def sounding (c : Current) (on : Bool) : Line := ⟨0, false, .pattern c, on, 0, 0, [], none⟩

/-- The same with a PENDING call of call point 0. -/
def withCall (c : Call) : State := { store with bells := { store.bells with calls := [c] } }

/-- A PENDING entry that is due again later. -/
def call : Call := ⟨7, 0, 4, 0, 1, 0, some 60000, none, .pending, none, none⟩

/-- The same with a fault table. -/
def withFaults (rs : List FaultRec) (full : Bool) : State := { store with faults := ⟨rs, full⟩ }

/-- A fault record. -/
def record (k : FaultKind) (src : Nat) (active : Bool) : FaultRec := ⟨k, src, 0, 0, 1, active⟩

/-- A table of 32 records, of which the first is as given. -/
def fullTable (active : Bool) : List FaultRec :=
  record .callsDropped 0 active :: (List.range 31).map fun i => record .limitConflict i true

/-- The same with another link O. -/
def withLink (k : Link) : State := { store with links := { store.links with o := k } }

/-- The same with an announcement record. -/
def withAnnounce (a : Announce) : State := { store with announce := a }

/-- Slot 4 on air in a phase. -/
def playout (ph : PlayPhase) : Playout :=
  ⟨4, .office, 0, 0, [0, 1], [4, 5], ph, 0, 0, 0, false, none, false, 0⟩

/-- Slot 4 on air. -/
def onAir (ph : PlayPhase) : State := withAnnounce { store.announce with playout := some (playout ph) }

/-- The port in a state, READY as given. -/
def withPort (p : Port) : State := withAnnounce { store.announce with port := p }

/-- A port in a state. -/
def port (st : PortState) (ready : Bool) : Port := { store.announce.port with state := st, readyHigh := ready }

/-- The same in fire on floor 0. -/
def fire : State :=
  { store with floors := { store.floors with table := [⟨.fire, some .zone, 0, 1, true⟩, floor .opened 0] } }

/-- The same LOADING, with nothing judged. -/
def loading : State := { State.startUp Pins.usual ⟨0, false, 0, 32768, 0⟩ 0 with store := Store.startUp 0 }

/-- The next state of a command, or the present one where it stops. -/
def after (c : Instr) (s : State) : State :=
  match exec c s with
  | .next t => t
  | .fault _ | .refused _ => s

/-- A line in an activity, its stroke on or off, holding requests. -/
def line (n : Nat) (a : Activity) (on : Bool) (queue : List SoundReq) : Line := ⟨n, false, a, on, if on then 40 else 0, 0, queue, none⟩

/-- The same in fire, the bells with the given lines. -/
def ringing (ls : List Line) : State := { fire with bells := { fire.bells with lines := ls } }

/-- The two floor lines FAULTED or NORMAL. -/
def linesFaulted (a b : Bool) : State :=
  { store with bells := { store.bells with
      lines := [⟨0, a, .idle, false, 0, 0, [], none⟩, ⟨1, b, .idle, false, 0, 0, [], none⟩, line 8 .idle false []] } }

/-- A scan of the three modules is under way; every differing sample is the third in a row (R166). -/
def scanning (s : State) (good : Bool) : State :=
  { s with loop := { s.loop with good := good, scan := some ⟨[], 0xA5C3, 3⟩, runs := List.replicate 192 2 } }

/-- Shutter `i` in a state, held or released, with its limits as given; the other shutter is open. -/
def limited (i : Nat) (st : ShutterState) (hold opened closed : Bool) : State :=
  let cfg := store.shutterCfg i
  { store with
    shutters := { store.shutters with
      table := store.shutters.table.set i ⟨st, hold, false, 0, false⟩
      slots := [if st.powered then some ⟨i, 0⟩ else none, none]
      waitList := if st.waiting then [i] else []
      stillList := if st.inWaitStill then [i] else [] }
    loop := { store.loop with debounced := (store.loop.debounced.set cfg.openPt opened).set cfg.closedPt closed } }

/-- The limits of shutter `i` before and after a good scan that reads the first module as given, the other two as 0: open, closed,
then open, closed. -/
def limitsRead (i : Nat) (s : State) (first : Byte) : Bool × Bool × Bool × Bool :=
  let t := after (.scanEnd 0xA5C3 [first, 0, 0]) s
  (s.openLimit i, s.closedLimit i, t.openLimit i, t.closedLimit i)

/-- Floor 0 CLOSED behind its CLOSED shutter. -/
def closedStore : State :=
  { limited 0 .closed false false true with floors := { store.floors with table := [floor .closed 1, floor .warned 0] } }

/-- Shutter 1, of a paternoster opening, waits with the chain MOVING ahead of shutter 0, which waits for a direction; its limits as given,
the slots too. -/
def queued (w : Travel) (opened closed : Bool) (slots : List (Option Grant)) : State :=
  let s := limited 0 (.waitSlot w) false opened closed
  { s with
    shutters := ⟨[⟨.waitSlot w, false, false, 0, false⟩, ⟨.waitSlot .down, true, false, 0, false⟩], slots, [1, 0], []⟩
    tracker := { s.tracker with still := false, quietTime := 0 } }

/-! ### Worked examples of the spec -/

/-- 0.7: isqrt rounds down; the values of 3.10. -/
theorem test_isqrt : [41600, 14400, 8000, 4000, 2000, 800, 160, 80, 0].map isqrt = [203, 120, 89, 63, 44, 28, 12, 8, 0] := by
  decide

/-- 3.10: d_req 180 and r0 520 at C = 5,730, and r0 350 at C = 13,900. -/
theorem test_levelled_stop :
    let e := { eng with pitch := 1000, phase := 250, cars := 14 }
    brakingDistance e 120 = 180 ∧ levelDistance e 5730 180 = 520 ∧ levelDistance e 13900 180 = 350 := by decide

/-- 3.10: the profile at r = 100 and the creep floor at r = 1. -/
theorem test_profile : stopProfile eng 120 100 = 89 ∧ stopProfile eng 120 1 = 12 ∧ stopProfile eng 120 0 = 0 := by decide

/-- 3.10: the output codes 818 and 606. -/
theorem test_speed_code : (withDrive (moving .run 120) false).speedCode = 818 ∧
    (withDrive (moving .level 89) false).speedCode = 606 := by decide

/-- 2.10, 2.4: a deviation of +3, and one of −2 at Lc − 2. -/
theorem test_deviation : deviation 14000 3 = 3 ∧ deviation 14000 13998 = -2 := by decide

/-- 5.2.1: the pattern 2-3 takes 3,900 ms. -/
theorem test_pattern_length : patternLength [2, 3] = 3900 := by decide

/-- 5.2.1: after the second stroke of 2-3 the next is the first of the second group, 1,000 ms later. -/
theorem test_next_stroke : (Current.mk ⟨.call, 9, none⟩ [2, 3] 0 1 0 0).next? = some (1, 0) ∧
    (Current.mk ⟨.call, 9, none⟩ [2, 3] 0 1 0 0).gap = 1000 ∧ (Current.mk ⟨.call, 9, none⟩ [2, 3] 1 2 0 0).next? = none := by
  decide

/-- R179: the CRC of the nine characters 1 to 9 with this polynomial and initial value is the well-known 0x29B1. -/
theorem test_crc : crc16 [0x31, 0x32, 0x33, 0x34, 0x35, 0x36, 0x37, 0x38, 0x39] = 0x29B1 := by decide +kernel

/-- 9.9: HOLD_CLOSING(10) moves T from 18:00 to 18:10, told as a store count and as a second of day. -/
theorem test_hold_example : ((after (.holdClosing .O 10) store).link .O).reply =
    some ⟨36, .accepted, be 4 1728065400 ++ be 4 65400⟩ := by decide +kernel

/-- 9.9: the same request as a frame of LEN 1, KIND 36 and m = 10. -/
theorem test_hold_frame : (after (.requestFrame .O ([1, 36, 10] ++ crcBytes [1, 36, 10])) store).plan.holdTotal = 10 := by
  decide

/-- 9.9: the acknowledgement of the one latched event releases the attention line into HOLDOFF. -/
theorem test_ack_holdoff : ((after (.ackEvents .O 0x8000) store).link .O).attention = .holdoff 10 := by decide

/-- R5: ZONE_ALARM of zone 0 brings floor 0 into FIRE with cause ZONE, and its shutter drops. -/
theorem test_zone_alarm : (after (.zoneAlarm .F 0) store).floors.table[0]? =
      some ⟨.fire, some .zone, 1728032400, 1, true⟩ ∧
    (after (.zoneAlarm .F 0) store).shutterState? 0 = some (.dropping (some 20000)) := by decide +kernel

/-- R7: GENERAL_ALARM reaches every floor. -/
theorem test_general_alarm : (after (.generalAlarmOn .F) store).floors.table.map (·.mode) = [.fire, .fire] := by
  decide +kernel

/-- R9, R12: the restored floor is CLOSED, and OPEN_STORE makes it OPENING. -/
theorem test_restore : (after (.openStore .O) (after (.fireRestore .F) fire)).floorMode? 0 = some .opened := by decide +kernel

/-- R45: PATERNOSTER_START warns the floor lines, the first stroke on, and does not ask CH. -/
theorem test_start : ((after (.paternosterStart .E) store).bells.lines.map (·.drive)) = [true, true, false] ∧
    (after (.paternosterStart .E) store).drive.state = .warning := by decide +kernel

/-- R53, 3.10 scaled: a stop from RUN enters LEVEL. -/
theorem test_stop : ((after (.paternosterStop .O) (withDrive (moving .run 120) false)).drive.level.map (·.r)) = some 230 := by
  decide +kernel

/-- R24: 00 to 10 is forward, 00 to 01 reverse, 00 to 11 invalid. -/
theorem test_classify : classify false false true false = .tick .forward ∧ classify false false false true = .tick .reverse ∧
    classify false false true true = .invalid := by decide

/-- R25: the counter wraps from Lc − 1 to 0. -/
theorem test_tick_wraps : (after (.encoderTransition true false)
    { store with tracker := { store.tracker with counter := 255 } }).tracker.counter = 0 := by decide +kernel

/-- R20, R164: the third bad scan raises LOOP, and the trouble signal sounds on CH. -/
theorem test_trouble : ((after (.scanEnd 0 []) { store with loop := { store.loop with
    badRun := 2, scan := some ⟨[], 0xA5C3, 3⟩ } }).line? 8).any (·.drive) = true := by decide +kernel

/-- R172: four samples above 900 make channel 0 HIGH, K being 4. -/
theorem test_window : ((Chan.judge ⟨0, 900, 4, 20⟩ 950 ⟨0, .inside, 3, 0, true, none⟩).window) = .high := by decide

/-- 11.2: bytes most significant first, and absent fields all ones. -/
theorem test_fields : be 4 0x01020304 = [1, 2, 3, 4] ∧ optField 2 none = [0xFF, 0xFF] ∧ signedField 1 (-2) = [0xFE] := by
  decide

/-- 11.5: PLAY of phrase 900 and the MISSING result. -/
theorem test_player_words : (PlayerWord.play 900).bits = 0x1384 ∧ statusMissing 2 = true ∧ statusMissing 3 = false := by
  decide

/-- R180, R181: a request of another link is refused for authority. -/
theorem test_authority : ((after (.zoneAlarm .O 0) store).link .O).reply = some ⟨16, .refusedAuthority, []⟩ := by decide

/-- 10.1, R192: the image that the test installation makes is judged GOOD but for nothing: its checks pass. -/
theorem test_checks_pass : firstFailure eng op.raw = none := by decide +kernel

/-- R194, check 4 field by field in section order: with no modules the first point of section 1 fails, before the count of section 6. -/
theorem test_check_order : firstFailure { eng with modules := 0 } op.raw = some (1, 17) ∧
    firstFailure { eng with modules := 25 } op.raw = some (6, 0) := by decide +kernel

/-! ### Witnesses: the hypotheses of each obligation, met clause by clause -/

theorem witness_EmptyQueueRunsTimeBase : (store.pending = [] ∧ dueCommands store = [.scanStart]) ∧
    dueCommands { store with loop := { store.loop with scanLeft := 5 } } = [] ∧
    (store.shutter? 1 = some ⟨.opened, true, false, 0, false⟩ ∧ store.announce.port.outbox = []) := by decide +kernel

/-- R35, R122, R163: in one millisecond the speed window and the scan interval fall by one, and 32.768 periods pass. -/
theorem test_millisecond : (match step { store with loop := { store.loop with scanLeft := 5 } } with
    | .next t => (t.tracker.windowLeft, t.loop.scanLeft, t.clock.prescaler, t.clock.periodPart)
    | .fault _ | .refused _ => (0, 0, 0, 0)) = (99, 4, 32, 96) := by decide +kernel

/-- A levelled stop whose deadline and evaluation, and an inching whose ramp, have run out; a stroke and the gap of a pattern that
have; a drop timer that has. -/
theorem witness_EmptyQueueRunsTimeBase_due :
    (let c := dueCommands (withDrive (levelled 100 (some 0)) false); .levelProfileEval ∈ c ∧ .fireDeadlineExpiry ∈ c) ∧
    .inchRampStep ∈ dueCommands (withDrive { moving .inch 0 with inch := some ⟨.forward, 600, true, true⟩ } false) ∧
    .strokeEnd 0 ∈ dueCommands (withLine (sounding ⟨⟨.call, 9, none⟩, [2, 3], 0, 0, 80, 80⟩ true)) ∧
    .strokeStart 0 ∈ dueCommands (withLine (sounding ⟨⟨.call, 9, none⟩, [2, 3], 0, 0, 300, 300⟩ false)) ∧
    .strokeStart 0 ∉ dueCommands (withLine (sounding ⟨⟨.call, 9, none⟩, [2, 3], 0, 1, 999, 999⟩ false)) ∧
    .dropTimerExpiry 0 ∈ dueCommands (withShutter (.dropping (some 0)) false) := by decide +kernel

theorem witness_Loading : (loading.store.state = .loading ∧ loading.store.loaded = none) ∧ (judge []).parts = none := by
  decide +kernel

set_option maxRecDepth 100000 in
/-- The image of the test installation is judged GOOD. -/
theorem witness_Loading_good : (judge (imageBytes eng op)).parts = some (eng, op) := by decide +kernel

set_option maxRecDepth 100000 in
/-- Each header test fails on its own: marker, format, lengths, check word. -/
theorem witness_Loading_header : (List.replicate 1457 (0 : Byte)).length = 1457 ∧ (0x5A16 : Nat) ≠ 0x5A17 ∧ (2 : Nat) ≠ 1 ∧
    ((800 : Nat) ≠ 799 ∨ (658 : Nat) ≠ 658) ∧
    ([0, 0] : List Byte) ≠ crcBytes (be 2 0x5A17 ++ be 2 1 ++ be 2 799 ++ be 2 658 ++ List.replicate 1457 0) := by
  decide +kernel

set_option maxRecDepth 100000 in
/-- A body of zeros fails a check, that of the test installation fails none. -/
theorem witness_Loading_checks :
    (let body : List Byte := List.replicate 1457 0;
      firstFailure (Eng.ofBytes (body.take 799)) (RawOp.ofBytes (body.drop 799)) ≠ none) ∧
    (let body := ((imageBytes eng op).drop 8).take 1457;
      body.length = 1457 ∧ firstFailure (Eng.ofBytes (body.take 799)) (RawOp.ofBytes (body.drop 799)) = none) := by
  decide +kernel

theorem witness_Loading_applied :
    let s := { loading with store := { loading.store with loaded := some (eng, op) } }
    s.store.state = .loading ∧ s.store.loaded = some (eng, op) ∧ store.store.state ≠ .loading := by decide

/-- R143: start-up ten minutes before the closing time of the day skips WARN1, and after that time leaves the record DONE. -/
theorem test_start_up_plan :
    let starts := fun (n : Nat) => (after .enterSupervising { loading with
      store := { loading.store with loaded := some (eng, op) }, clock := ⟨n, true, 0, 32768, 0⟩ }).plan
    starts 1728064200 = { Plan.blank 20000 with baseClose := some 1728064800, warn1 := .skipped, status := .waiting } ∧
    (starts 1728064800).status = .done ∧ (starts 1728064800).close = .skipped := by decide +kernel

theorem witness_FrameCarriesRequest : (Instr.writePlan .O 15 5 120 [1, 0]).wf = true ∧
    (Instr.writePlan .O 15 5 120 [1, 0]).request? = some (.O, 35, [15, 5, 0, 120, 1, 0]) ∧ store.listening .O = true ∧
    (store.link .O).receiver = .hunting := by decide

/-- A KIND on each edge of those that 11.4 has, and a LEN on each edge of a range. -/
theorem witness_FrameCarriesRequest_format :
    (∀ k ∈ [0, 21, 31, 45, 47, 50, 63, 76, 255],
      k < 256 ∧ (k = 0 ∨ (20 < k ∧ k < 32) ∨ (44 < k ∧ k < 48) ∨ (49 < k ∧ k < 64) ∨ 75 < k)) ∧
    (∀ n ∈ [4, 13], n ≤ 60 ∧ (n < 5 ∨ 12 < n)) ∧ (∀ n ∈ [2, 5, 36], n ≤ 60 ∧ (n < 4 ∨ 34 < n ∨ n % 2 = 1)) ∧ 3 < 4 := by decide

theorem witness_RequestChecks : store.listening .F = true ∧
    ((Instr.writeScript .O 0 1 []).wf = true ∧ (Instr.writeScript .O 0 1 []).request? = some (.O, 39, [0, 1]) ∧
      lengthOk 39 2 = false) ∧
    ((Instr.zoneAlarm .O 0).request? = some (.O, 16, [0]) ∧ lengthOk 16 1 = true ∧ authority .O 16 = false) ∧
    (authority .F 16 = true ∧ configTakes loading.store.state 16 = false ∧ loading.listening .F = true) := by decide

theorem witness_CharactersAndFrames :
    (let s := withLink { link with receiver := .collecting [] };
      (s.link .O).receiver = .collecting [] ∧ (s.link .O).driverOn = false ∧ s.links.address = 1 ∧
        ([0, 0] : List Byte) ≠ crcBytes [0, 9]) ∧
    (store.listening .O = true ∧ store.links.address < 32 ∧ (store.link .O).receiver = .hunting ∧
      (store.link .O).sending = .idle ∧ ([60] ++ List.replicate 63 0 : List Byte).length = 64) := by decide

theorem witness_RepliesAreSent :
    ((withLink { link with sending := .waiting, startBitSeen := true }).link .O).sending = .waiting ∧
    ((withLink { link with sending := .waiting }).link .O).startBitSeen = false ∧
    ((withLink { link with sending := .lead, reply := some ⟨9, .accepted, []⟩ }).link .O).reply = some ⟨9, .accepted, []⟩ ∧
    ((withLink { link with sending := .sending }).link .O).sending = .sending ∧
    ((withLink { link with sending := .tail }).link .O).sending = .tail := by decide

theorem witness_SupervisionExpires : (store.supervised .F = true ∧ (store.link .F).state ≠ .lost) ∧
    (store.supervised .E = true ∧ (store.link .E).state ≠ .lost) ∧ store.faults.records.length < 32 ∧
    (withDrive { moving .inch 30 with inch := some ⟨.forward, 0, true, true⟩ } false).drive.state = .inch ∧
    store.drive.state ≠ .inch ∧
    ({ store with store := { store.store with shadow := some [] } } : State).store.shadow ≠ none := by decide

/-- Link O QUIET or LOST, LINK_LOST recorded for it and for link E. -/
def returning (st : LinkState) : State :=
  { withLink { link with state := st } with faults := ⟨[record .linkLost 1 true, record .linkLost 2 true], false⟩ }

theorem witness_SupervisionExpires_frame : ∀ st ∈ [LinkState.quiet, .lost],
    (returning st).listening .O = true ∧ ((returning st).link .O).state = st ∧ st ≠ .active := by decide

/-- R184, R18: a frame of an unknown KIND ends the loss of link O and its record alone. -/
theorem test_frame_ends_loss :
    let t := after (.requestFrame .O ([0, 0] ++ crcBytes [0, 0])) (returning .lost)
    t.faults.records.map (·.active) = [false, true] ∧ (t.link .O).state = .active ∧
      (t.link .F).latches.getLsbD Event.linkState.bit = true := by decide +kernel

theorem witness_EventsAndHoldoff :
    ((withLink { link with attention := .holdoff 0 }).link .O).attention = .holdoff 0 ∧
    ((withLink { link with attention := .holdoff 0 }).link .O).latches.getLsbD 15 = true ∧
    (((withLink { link with attention := .holdoff 0 }).link .O).mask.getLsbD 15 = false) ∧
    (∀ b, ((withLink { link with latches := 0, attention := .holdoff 0 }).link .O).latches.getLsbD b = true →
      ((withLink { link with latches := 0, attention := .holdoff 0 }).link .O).mask.getLsbD b = true) := by
  refine ⟨by decide, by decide, by decide, fun b h => ?_⟩
  have z : ((withLink { link with latches := 0, attention := .holdoff 0 }).link .O).latches = 0 := rfl
  rw [z] at h
  simp at h

/-- The line RELEASED with nothing latched, ASSERTED for STARTUP and in HOLDOFF, and a link whose driver is off. -/
theorem witness_EventsAndHoldoff_line :
    (link.attention = .asserted ∧ store.listening .O = true) ∧ (∀ n, (store.link .O).attention ≠ .holdoff n) ∧
    ((withLink { link with latches := 0, attention := .released }).link .O).attention = .released := by
  refine ⟨by decide, fun n h => ?_, by decide⟩
  have z : (store.link .O).attention = .asserted := rfl
  rw [z] at h
  cases h

/-- R188: an acknowledgement of the only event, and a mask over it, begin 10 ms of HOLDOFF; an event asserts a released line. -/
theorem test_attention_line :
    ((after (.ackEvents .O 0x8000) store).link .O).attention = .holdoff 10 ∧
    ((after (.setEventMask .O 0x8000) store).link .O).attention = .holdoff 10 ∧
    ((setEvent .zone (withLink { link with latches := 0, attention := .released })).link .O).attention = .asserted ∧
    ((setEvent .zone (withLink { link with latches := 0, attention := .holdoff 3 })).link .O).attention = .holdoff 3 := by
  decide +kernel

theorem store_attentionAgrees : store.attentionAgrees := by
  intro l
  cases l <;> exact (by decide : link.wantsAttention = true)

theorem witness_AttentionAgreesAlways : store.attentionAgrees ∧ ∃ t, step store = .next t :=
  ⟨store_attentionAgrees, _, rfl⟩

theorem witness_EventRequests : store.listening .O = true := by decide

/-- R189: READ_LINK with 1 clears the counts of the link that asks, and keeps its latches. -/
theorem test_read_link_clears : (let k := (after (.readLink .O 1) (withLink { link with errorCount := 3, abandonedCount := 2 })).link .O;
    (k.errorCount, k.abandonedCount, k.latches, k.attention)) = (0, 0, 0x8000, .asserted) := by decide +kernel

theorem witness_ReadsChangeNothing : store.listening .E = true ∧ loading.listening .E = true ∧ store.drive.level = none ∧
    (withDrive (levelled 100 none) false).drive.level = some ⟨120, 180, 230, 100, .travel, none, 0, false, 0⟩ ∧
    store.analog.length = 6 := by decide

theorem witness_StoreReads : store.listening .F = true ∧ loading.listening .F = true ∧
    (store.line? 8).isSome = true ∧ store.line? 7 = none ∧ store.store.op.order.length ≤ 8 ∧ (7 : Nat) ≤ 7 := by decide

theorem witness_ZoneAlarm : store.mayAsk .F 16 ∧
    (store.floors.zones[15]? = some ⟨false, 1, 0⟩ ∧ store.floors.table[1]? = some (floor .opened 0)) ∧
    (fire.floors.zones[0]? = some ⟨false, 0, 0⟩ ∧ fire.floors.table[0]? = some ⟨.fire, some .zone, 0, 1, true⟩) ∧
    (store.modZone 0 fun z => { z with alarm := true }).floors.zones[0]? = some ⟨true, 0, 0⟩ := by
  unfold State.mayAsk; decide

theorem witness_ZoneClear : store.mayAsk .F 17 ∧ store.floors.zones[15]? = some ⟨false, 1, 0⟩ ∧
    store.floors.table[1]? = some (floor .opened 0) := by unfold State.mayAsk; decide

theorem witness_GeneralAlarmSources : store.mayAsk .F 18 ∧
    (store.floors.gaFlag = false ∧ store.floors.inputAlarm = false) ∧
    (store.modFloors fun t => { t with inputAlarm := true }).floors.inputAlarm = true ∧
    (store.modFloors fun t => { t with gaFlag := true }).floors.gaFlag = true ∧
    ((store.modFloors fun t => { t with pinOpen := true, debounceLeft := some 0 }).floors.debounceLeft = some 0) ∧
    store.floors.debounceLeft = none ∧ store.floors.pinOpen ≠ true := by unfold State.mayAsk; decide

/-- The least and the greatest field that is neither on nor off, on a receiver that hunts; a shutter that exists and one that does not. -/
theorem witness_FieldsOutOfRange : (store.mayAsk .F 18 ∧ (store.link .F).receiver = .hunting) ∧
    (store.mayAsk .E 70 ∧ (store.link .E).receiver = .hunting ∧ store.shutter? 0 ≠ none ∧ store.shutter? 255 = none) ∧
    (1 < 2 ∧ 2 < 256) ∧ (1 < 255 ∧ 255 < 256) := by unfold State.mayAsk; decide

/-- R7, R89: the field 2 is refused by its range, with the loop FAULTED too. -/
theorem test_fields_out_of_range :
    ((after (.requestFrame .F (frameBytes 18 [2])) store).link .F).reply = some ⟨18, .refusedRange, [0, 0, 0]⟩ ∧
    ((after (.requestFrame .E (frameBytes 70 [0, 2])) store).link .E).reply = some ⟨70, .refusedRange, [0]⟩ ∧
    ((after (.requestFrame .E (frameBytes 70 [9, 255])) { store with loop := { store.loop with good := false } }).link .E).reply =
      some ⟨70, .refusedRange, [0xFF]⟩ := by decide +kernel

theorem witness_FireStopsTheDrive :
    ((withDrive (moving .lastrun 120) false).mayAsk .F 16 ∧ (withDrive (moving .run 120) false).drive.state = .run ∧
      (withDrive (moving .accel 1) false).drive.state = .accel ∧ (withDrive { Drive.startUp with state := .warning } true).drive.state
        = .warning ∧ (withDrive (moving .reference 12) false).drive.state = .reference) ∧
    ((withDrive (levelled 100 (some 0)) false).drive.state = .level ∧
      (withDrive (levelled 100 (some 0)) false).drive.level = some ⟨120, 180, 230, 100, .travel, some 0, 0, false, 0⟩) ∧
    ((withDrive (levelled 100 none) false).drive.level = some ⟨120, 180, 230, 100, .travel, none, 0, false, 0⟩ ∧
      (withDrive { moving .inch 30 with inch := some ⟨.forward, 600, true, true⟩ } false).drive.state = .inch ∧
      (withDrive settling false).drive.level = some ⟨120, 180, 230, 0, .settling, none, 3, false, 0⟩ ∧ store.drive.state = .off ∧
      (withDrive { Drive.startUp with state := .brake, brakeExit := some .off } false).drive.state = .brake ∧
      (withDrive { Drive.startUp with state := .halt } true).drive.state = .halt) := by
  unfold State.mayAsk; decide

/-- R56: a fire gives a levelled stop its deadline of 20 s, does not restart one that runs, and leaves a settling stop alone. -/
theorem test_fire_in_level :
    (after (.zoneAlarm .F 0) (withDrive (levelled 100 none) false)).drive =
      { levelled 100 (some 20000) with stopCause := some .fire } ∧
    (after (.zoneAlarm .F 0) (withDrive (levelled 100 (some 7)) false)).drive = levelled 100 (some 7) ∧
    (after (.zoneAlarm .F 0) (withDrive settling false)).drive = settling := by decide +kernel

theorem witness_SilenceAndRestore : (fire.mayAsk .F 19 ∧ fire.firePresent = true ∧ fire.floors.silence = false) ∧
    (let s := ringing [line 0 (.fire 40) true [], line 1 (.fire 200) false [⟨.startWarning, 1, none⟩], line 8 (.fire 299) false []];
      s.line? 0 = some (line 0 (.fire 40) true []) ∧ s.line? 8 = some (line 8 (.fire 299) false []) ∧
        s.line? 1 = some (line 1 (.fire 200) false [⟨.startWarning, 1, none⟩])) ∧
    (store.mayAsk .F 20 ∧ (∀ z ∈ store.floors.zones, z.alarm = false) ∧ store.floors.gaFlag = false ∧
      store.floors.inputAlarm = false) ∧
    ((∀ z ∈ fire.floors.zones, z.alarm = false) ∧ fire.floors.table[0]? = some ⟨.fire, some .zone, 0, 1, true⟩) ∧
    (∃ z ∈ (store.modZone 0 fun z => { z with alarm := true }).floors.zones, z.alarm = true) ∧
    (let s := { store with floors := { store.floors with table := [floor .closed 1, floor .warned 0] } };
      s.mayAsk .O 38 ∧ s.firePresent = false ∧ ∃ f ∈ s.floors.table, f.mode = .closed) ∧
    ∀ f ∈ store.floors.table, f.mode ≠ .closed := by
  unfold State.mayAsk; decide

/-- Shutter 0 CLOSED on a CLOSED floor, which OPEN_STORE raises; shutter 1, OPEN on a floor that stays as it was. -/
theorem witness_SilenceAndRestore_raises :
    (closedStore.floorMode? (closedStore.shutterCfg 0).floor = some .closed ∧ closedStore.shutterState? 0 = some .closed ∧
      closedStore.dropDemand 0 = false ∧ closedStore.supplyLow = false) ∧
    closedStore.floorMode? (closedStore.shutterCfg 1).floor ≠ some .closed ∧ closedStore.shutterState? 1 = some .opened := by
  decide +kernel

/-- In fire, EVAC queued, and a call of the two floor lines due; line 0 as given. -/
def fireAndCall (l : Line) : State :=
  { fire with
    bells := { fire.bells with lines := l :: fire.bells.lines.drop 1, calls := [{ call with nextDue := some 0 }] }
    announce := { fire.announce with queue := [⟨7, .evac, 0, some 5⟩, ⟨4, .office, 0, none⟩] } }

/-- Line 0 takes the call; its queue is full; it is FAULTED, and line 1 too. -/
theorem witness_SilenceAndRestore_calls :
    (∀ l ∈ [line 0 (.fire 40) true [], line 0 (.fire 40) true (List.replicate 8 ⟨.closing, 2, none⟩),
        ⟨0, true, .idle, false, 0, 0, [], none⟩],
      let s := fireAndCall l
      s.mayAsk .F 20 ∧ s.firePresent = true ∧ (∀ z ∈ s.floors.zones, z.alarm = false) ∧ s.floors.gaFlag = false ∧
        s.floors.inputAlarm = false ∧ (s.bells.calls.map (·.callId)).Nodup ∧
        ∀ c ∈ s.bells.calls, c.state = .pending ∧ c.nextDue = some 0) ∧
    ((op.codes.getD (4 - 1) ⟨[], 0⟩).mask.testBit 0 = true ∧ (op.codes.getD (4 - 1) ⟨[], 0⟩).mask.testBit 1 = true ∧
      (fireAndCall (line 0 (.fire 40) true [])).line? 0 = some (line 0 (.fire 40) true []) ∧ 0 + 1 ≤ 8 ∧ 8 < 8 + 1) := by
  unfold State.mayAsk; decide

/-- R154, R114: the EVAC entry goes, and the call begins its round on the lines that take it. -/
theorem test_restore_calls :
    (let t := after (.fireRestore .F) (fireAndCall (line 0 (.fire 40) true []))
     t.announce.queue.map (·.slot) = [] ∧ t.announce.playout.map (·.slot) = some 4 ∧ t.bells.calls.map (·.roundLines) = [some [0, 1]]) ∧
    (after (.fireRestore .F) (fireAndCall ⟨0, true, .idle, false, 0, 0, [], none⟩)).bells.calls.map (·.roundLines) = [some [1]] := by
  decide +kernel

/-- R76, R82: the raised shutter is granted the free slot and travels; with the loop FAULTED it waits. -/
theorem test_open_store_raises :
    (after (.openStore .O) closedStore).shutterState? 0 = some (.raising 60000) ∧
    (after (.openStore .O) { closedStore with loop := { closedStore.loop with good := false } }).shutterState? 0 =
      some (.waitSlot .up) := by decide +kernel

theorem witness_FaultsAreRecorded :
    ((∀ r ∈ store.faults.records, r.isOf .loop 0 = false) ∧ store.faults.records.length < 32) ∧
    ((∀ r ∈ (withFaults (fullTable false) false).faults.records, r.isOf .loop 0 = false) ∧
      (withFaults (fullTable false) false).faults.records.length = 32 ∧
      fullTable false = [] ++ record .callsDropped 0 false :: (fullTable false).drop 1) ∧
    ((∀ r ∈ (withFaults (fullTable true) false).faults.records, r.active = true) ∧ (fullTable true).length = 32) ∧
    ([record .loop 0 false] = [] ++ record .loop 0 false :: [] ∧ (record .loop 0 false).isOf .loop 0 = true ∧
      FaultKind.loop.cls ≠ .occurrence ∧ FaultKind.callsDropped.cls = .occurrence) ∧
    (store.line? 8 = some (line 8 .idle false []) ∧ (line 8 .idle false []).queue.length < 8) ∧
    (let q : List SoundReq := List.replicate 7 ⟨.closing, 2, none⟩;
      (line 8 .tail false q).queue.length < 8 ∧ ∀ x ∈ (line 8 .tail false q).queue, x.cls ≠ .trouble) ∧
    (∃ x ∈ (line 8 .tail false [⟨.trouble, 3, none⟩]).queue, x.cls = .trouble) := by decide

theorem witness_FaultClear : store.mayAsk .E 71 ∧ FaultKind.sourceOk .linkLost 2 = true ∧
    FaultKind.sourceOk .linkLost 3 = false ∧
    (refresh .E (withFaults [record .loop 0 false] true)).faults.find .loop 0 = some (record .loop 0 false) ∧
    (refresh .E (withFaults [record .bellLine 0 true] false)).faults.find .bellLine 0 = some (record .bellLine 0 true) ∧
    (refresh .E (withFaults [record .trip 0 true] false)).faults.find .trip 0 = some (record .trip 0 true) ∧
    ((refresh .E (withLine ⟨0, true, .idle, false, 0, 2, [], none⟩)).faults.find .bellLine 0 = none ∧
      (withLine ⟨0, true, .idle, false, 0, 2, [], none⟩).line? 0 = some ⟨0, true, .idle, false, 0, 2, [], none⟩) ∧
    ((refresh .E store).faults.find .bellLine 0 = none ∧ store.line? 0 = some (line 0 .idle false []) ∧ store.line? 7 = none) ∧
    ((refresh .E store).faults.find .loop 0 = none) := by
  unfold State.mayAsk; decide

theorem witness_FaultClear_all :
    let s := { withLine ⟨0, true, .idle, false, 0, 2, [], none⟩ with faults := ⟨[record .bellLine 0 false, record .bellLine 1 true], false⟩ }
    let t := after (.faultClearAll .E) s
    t.line? 0 = some ⟨0, true, .idle, false, 0, 2, [], none⟩ ∧ (refresh .E s).faults.records.any (fun x => !x.active) = true ∧
      (refresh .E store).faults.records.any (fun _ => true) = false := by decide +kernel

theorem witness_FaultTableBounded : (withFaults (fullTable true) true).faults.wf ∧
    ∃ t, step (withFaults (fullTable true) true) = .next t := ⟨by unfold Faults.wf; decide +kernel, _, rfl⟩

theorem witness_Encoder : store.store.eng = some eng ∧ store.tracker.referenced = true ∧
    ({ store with tracker := { store.tracker with errorCount := 4, pitchTravel := 63 } } : State).tracker.errorCount = 4 ∧
    (withDrive (moving .run 120) false).drive.driven = true ∧ loading.store.eng = none ∧ loading.tracker.still = false := by
  decide

/-- The travel since the index one tick short of Lc and the slip tolerance, 256 + 4, and at it, in each state of the drive named. -/
theorem witness_Encoder_missing :
    (sinceIndex (moving .run 120) 259).tracker.travel + 1 ≤ eng.cars * eng.pitch + eng.slip ∧
    (∀ d ∈ [moving .run 120, { Drive.startUp with state := .brake, brakeExit := some .off },
          { Drive.startUp with state := .level, level := some ⟨120, 180, 230, 0, .settling, none, 0, false, 0⟩ },
          { Drive.startUp with state := .warning }],
      let s := sinceIndex d 260
      s.store.eng = some eng ∧ s.tracker.referenced = true ∧ eng.cars * eng.pitch + eng.slip < s.tracker.travel + 1 ∧
        s.faults.records.length < 32 ∧ (s.drive.driven = true ∨ s.drive.settling = true ∨ s.drive.state = .warning ∨
          s.drive.state = .brake ∧ s.drive.brakeExit = some .off)) ∧
    { (sinceIndex Drive.startUp 260).tracker with referenced := false }.referenced = false := by decide

/-- R31: the forward tick past Lc and the slip tolerance in RUN. -/
theorem test_index_missing :
    let t := after (.encoderTransition true false) (sinceIndex (moving .run 120) 260)
    t.tracker.referenced = false ∧ t.tracker.travel = 261 ∧ t.drive.state = .brake ∧ t.drive.brakeExit = some .halt ∧
      t.faults.records.map (·.kind) = [.indexMissing] := by decide +kernel

/-- The chain deemed still, the brake applied for a time, and shutter `i` in a state, its hold energised. -/
def applied (i : Nat) (st : ShutterState) (n : Nat) : State :=
  let s := limited i st true false false
  { s with tracker := { s.tracker with brakeAppliedTime := n } }

theorem witness_Encoder_still :
    (∀ n ∈ [0, 7999, 8000], ∀ st ∈ [ShutterState.lowering 5, .raising 5, .waitSlot .down, .opened],
      let s := applied 1 st n
      s.tracker.still = true ∧ s.drive.released = false ∧ s.tracker.brakeAppliedTime = n ∧ s.shutters.listsAgree) ∧
    (applied 1 (.lowering 5) 7999).travelsAtOpening 1 = true ∧ (applied 1 .opened 7999).travelsAtOpening 1 = false ∧
    (applied 0 (.lowering 5) 7999).travelsAtOpening 0 = false ∧ (withDrive (moving .run 120) false).tracker.still = false := by
  unfold Shutters.listsAgree; decide +kernel

/-- R36, R80: a tick before 8,000 ms stops the powered shutter of a paternoster opening and no other; at 8,000 ms the chain stays still. -/
theorem test_tick_stops_travel :
    (let t := after (.encoderTransition true false) (applied 1 (.lowering 5) 7999)
     t.tracker.still = false ∧ t.shutters = { (applied 1 (.lowering 5) 7999).shutters with
       table := [⟨.opened, true, false, 0, false⟩, ⟨.waitSlot .down, true, false, 1728032400, false⟩]
       slots := [none, none], waitList := [1] }) ∧
    (after (.encoderTransition true false) (applied 0 (.lowering 5) 7999)).shutterState? 0 = some (.lowering 5) ∧
    (after (.encoderTransition true false) (applied 1 (.lowering 5) 8000)).tracker.still = true := by decide +kernel

theorem witness_IndexPulse : (store.store.eng = some eng ∧ store.tracker.direction = .forward ∧ store.tracker.referenced = true) ∧
    (let s := { withDrive (moving .reference 12) false with tracker := Tracker.startUp false false };
      s.drive.state = .reference ∧ s.tracker.referenced = false ∧ s.store.eng = some eng) ∧
    ({ store with tracker := { store.tracker with counter := 252 } } : State).tracker.counter = 256 - eng.slip ∧
    ({ store with tracker := { store.tracker with direction := .reverse } } : State).tracker.direction = .reverse := by decide

theorem witness_CarAtLanding : store.store.eng = some eng ∧ 0 < eng.cars ∧ 0 < eng.pitch ∧ 202 < eng.cars * eng.pitch ∧
    202 % eng.pitch = eng.phase ∧ store.tracker.counter % eng.pitch ≠ eng.phase := by decide

theorem witness_SpeedWindow :
    store.drive.driven = false ∧
    (let s := { withDrive { moving .run 120 with overspeedCount := 1 } false with
        tracker := { Tracker.startUp false false with windowTicks := 14 } };
      s.drive.driven = true ∧ s.drive.released = true ∧ 120 + 120 / 8 < min 65535 (s.tracker.windowTicks * 10) ∧
        1 ≤ s.drive.overspeedCount) ∧
    ((moving .run 120).overspeedCount = 0 ∧ { moving .run 120 with sinceRelease := 999 }.sinceRelease < 1000) ∧
    (∀ n ∈ [18, 19], let s := withDrive { moving .run 120 with stallCount := n } false;
      min 65535 (s.tracker.windowTicks * 10) < s.drive.vRef / 4 ∧ 1000 ≤ s.drive.sinceRelease ∧ s.drive.stallCount = n ∧
        s.faults.records.length < 32) ∧
    (let s := { withDrive (moving .run 120) false with tracker := { Tracker.startUp false false with windowTicks := 3 } };
      min 65535 (s.tracker.windowTicks * 10) ≤ 135 ∧ s.drive.vRef / 4 ≤ min 65535 (s.tracker.windowTicks * 10)) := by
  decide

theorem witness_ChainDeemedStill : (withDrive (moving .run 120) false).drive.released = true ∧
    (let s := withDrive { Drive.startUp with state := .brake, brakeExit := some .off } false;
      s.drive.released = false ∧ s.tracker.still = false ∧ s.tracker.quietTime < 500 ∧ s.drive.brakeExit = some .off) ∧
    (let s := withDrive { Drive.startUp with state := .brake, brakeExit := some .halt, stopCause := some (.fault .trip) } false;
      s.drive.state = .brake ∧ s.drive.stopCause = some (.fault .trip)) ∧
    (let v : LevelRec := ⟨120, 180, 230, 0, .settling, none, 3, false, 0⟩;
      let s := withDrive { Drive.startUp with state := .level, level := some v } false;
      s.drive.released = false ∧ s.tracker.still = false ∧ s.drive.state = .level ∧ s.drive.level = some v ∧
        v.phase = .settling) ∧
    (withDrive Drive.startUp false).drive.state = .off ∧
    (let s := withDrive inchEnded false;
      s.drive.released = false ∧ s.tracker.still = false ∧ s.drive.state = .brake ∧ s.drive.brakeExit = some .halt ∧
        s.drive.stopCause = some .inchEnd ∧ s.drive.haltCause = some .trip) := by decide

/-- R58, R64: inching begun from HALT returns there, its cause kept, the reverse output's state and the origin let go. -/
theorem test_inch_ends_in_halt :
    (after .brakeApplied8s (withDrive inchEnded false)).drive =
      { inchEnded with state := .halt, brakeExit := none, reverse := false, inchOrigin := none } := by decide +kernel

/-- R46: with line 0 FAULTED the drive waits for line 1 alone; with both FAULTED the chain starts at once, in ACCEL, or in REFERENCE at
v_creep where it is unreferenced. -/
theorem test_start_faulted :
    (after (.paternosterStart .E) (linesFaulted true false)).drive.warningLines = some [1] ∧
    (let d := (after (.paternosterStart .E) (linesFaulted true true)).drive; (d.state, d.vRef, d.released)) = (.accel, 0, true) ∧
    (let s := linesFaulted true true
     let d := (after (.paternosterStart .E) { s with tracker := { s.tracker with referenced := false } }).drive
     (d.state, d.vRef, d.released)) = (.reference, 12, true) := by decide +kernel

/-- Every floor line taking; line 0 with a full queue, FAULTED, and both FAULTED. -/
theorem witness_Start : (store.mayAsk .E 64 ∧ store.drive.state = .off ∧ (∀ b ∈ store.startConditions, b = true) ∧
      ∀ n, n < store.eng.floorCount → store.takesReq n ⟨.startWarning, 1, none⟩ = true) ∧
    (let full := withLine (line 0 .tail true (List.replicate 8 ⟨.closing, 2, none⟩))
     let taking := fun (s : State) => (List.range s.eng.floorCount).filter fun n => s.takesReq n ⟨.startWarning, 1, none⟩
     (taking store = [0, 1] ∧ taking full = [1] ∧ taking (linesFaulted true false) = [1] ∧ taking (linesFaulted true true) = []) ∧
       (full.mayAsk .E 64 ∧ ∀ b ∈ full.startConditions, b = true) ∧
       ((linesFaulted true true).mayAsk .E 64 ∧ (∀ b ∈ (linesFaulted true true).startConditions, b = true) ∧
         0 < (linesFaulted true true).eng.floorCount ∧ 0 < (linesFaulted true true).eng.vRun)) ∧
    (let s := withDrive { Drive.startUp with state := .warning, warningLines := some [0, 1] } true;
      s.drive.warningLines = some [0, 1] ∧ [0, 1].erase 1 ≠ [] ∧ 2 ∉ [0, 1]) ∧
    (fire.drive.state = .off ∧ ∃ b ∈ fire.startConditions, b = false) ∧ (withDrive (moving .run 120) false).drive.state ≠ .off ∧
    (let s := withDrive { Drive.startUp with state := .warning, warningLines := some [1] } true;
      s.drive.state = .warning ∧ s.drive.warningLines = some [1] ∧ 0 < s.eng.vRun ∧ s.mayStart = true ∧
        s.tracker.referenced = true) ∧
    ({ store with tracker := { store.tracker with referenced := false } } : State).mayStart = true ∧ fire.mayStart = false := by
  unfold State.mayAsk; decide

theorem witness_SpeedReference : (withDrive (moving .accel 119) false).drive.state = .accel ∧
    ((withDrive (moving .lastrun 119) false).drive.vRef < (withDrive (moving .lastrun 119) false).eng.vRun) ∧
    (withDrive { moving .inch 0 with inch := some ⟨.forward, 600, true, true⟩ } false).drive.inch =
      some ⟨.forward, 600, true, true⟩ ∧
    (withDrive (levelled 1 none) false).drive.level = some ⟨120, 180, 230, 1, .travel, none, 0, false, 0⟩ := by decide

/-- The lamp points of the two floors are 0 to 3. -/
theorem witness_lampsApart : (withDrive (moving .accel 119) false).lampsApart ∧ (withDrive (moving .run 120) false).lampsApart := by
  unfold State.lampsApart; decide +kernel

/-- R14: entering RUN darkens the lamps of the two OPEN floors. -/
theorem test_lamps_run : (after .accelRampStep (withDrive (moving .accel 119) false)).floors.table.map (·.lit) = [false, false] ∧
    (after (.paternosterStop .O) (after .accelRampStep (withDrive (moving .accel 119) false))).loop.out.take 4 =
      [true, true, true, true] := by decide +kernel

theorem witness_OrderlyStop : ((withDrive (moving .run 120) false).mayAsk .O 48 ∧ 0 < eng.accel ∧ eng.phase < eng.pitch ∧
      (withDrive (moving .run 120) false).store.eng = some eng) ∧
    (withDrive (moving .reference 12) false).drive.state = .reference ∧
    (withDrive { Drive.startUp with state := .warning } true).drive.state = .warning ∧
    (withDrive (levelled 100 none) false).drive.state = .level ∧ store.drive.state = .off ∧
    (let s := withDrive { moving .inch 30 with inch := some ⟨.reverse, 0, true, true⟩, inchOrigin := some .halt } false;
      s.mayAsk .E 48 ∧ s.drive.state = .inch ∧ s.drive.inchOrigin = some .halt) := by unfold State.mayAsk; decide

theorem witness_StopNow : ((withDrive (moving .run 120) false).mayAsk .E 65 ∧ (withDrive (moving .run 120) false).drive.driven = true ∧
      (withDrive (moving .run 120) false).tracker.still = false ∧ (withDrive (moving .run 120) false).tracker.quietTime < 500) ∧
    ({ store with drive := moving .run 120 } : State).tracker.quietTime = 500 ∧
    (withDrive { Drive.startUp with state := .warning } true).drive.state = .warning ∧
    (withDrive { Drive.startUp with
      state := .level, level := some ⟨120, 180, 230, 0, .settling, none, 0, false, 0⟩ } false).drive.settling = true ∧
    store.drive.state = .off := by unfold State.mayAsk; decide

theorem witness_LastCircuitAndLevel :
    (∀ n ∈ [0, 254, 255], let s := withDrive { moving .lastrun 120 with lastrunTravel := some n } false;
      s.store.eng = some eng ∧ s.tracker.still = false ∧ s.drive.state = .lastrun ∧ s.drive.lastrunTravel = some n ∧
        s.tracker.travel < eng.cars * eng.pitch + eng.slip) ∧
    (254 + 1 < eng.cars * eng.pitch ∧ eng.cars * eng.pitch ≤ 255 + 1 ∧ 0 < eng.accel) ∧
    (∀ r ∈ [0, 1, 2], let s := withDrive (levelled r none) false;
      s.store.eng = some eng ∧ s.tracker.still = false ∧ s.drive.state = .level ∧
        s.drive.level = some ⟨120, 180, 230, r, .travel, none, 0, false, 0⟩) ∧
    (∀ n ∈ [3, 4, 5], let v : LevelRec := ⟨120, 180, 230, 0, .settling, none, n, false, 0⟩;
      let s := withDrive { Drive.startUp with state := .level, level := some v } false;
      s.drive.level = some v ∧ v.phase = .settling ∧ v.overrun - 1 ≤ eng.levelTol ∧ v.overrun ≤ 65535) ∧
    (∀ c ∈ ([0, 4, 252] : List Nat), let s := { withDrive (levelled 4 none) false with
        tracker := { store.tracker with still := false, quietTime := 0, counter := c } };
      s.store.eng = some eng ∧ s.tracker.direction = .forward ∧ s.tracker.referenced = true ∧ s.tracker.still = false ∧
        s.tracker.quietTime < 500 ∧ s.drive.state = .level ∧
        ((if c ≤ 256 / 2 then (c : Int) else c - 256).natAbs ≤ eng.slip)) := by decide

theorem witness_HaltReset : ((withDrive { Drive.startUp with state := .halt } true).mayAsk .E 67 ∧
      (withDrive { Drive.startUp with state := .halt } true).tripActive = false ∧ store.loop.good = true) ∧
    store.drive.state ≠ .halt := by unfold State.mayAsk; decide

theorem witness_Inching : (store.mayAsk .E 66 ∧ store.mayInch = true ∧ store.drive.state = .off) ∧
    ((withDrive { Drive.startUp with state := .halt } true).mayInch = true) ∧
    (fire.mayInch = false ∧ fire.drive.state = .off) ∧
    (let s := withDrive { moving .inch 30 with inch := some ⟨.reverse, 0, true, true⟩, inchOrigin := some .halt } false;
      s.mayAsk .E 66 ∧ s.drive.state = .inch ∧ s.drive.inch = some ⟨.reverse, 0, true, true⟩ ∧
        s.drive.inchOrigin = some .halt ∧ Direction.forward ≠ .reverse) ∧
    (let s := withDrive { Drive.startUp with state := .brake, brakeExit := some .off } false;
      s.mayAsk .E 66 ∧ s.drive.state ∈ [.warning, .reference, .accel, .run, .lastrun, .level, .brake]) := by
  unfold State.mayAsk; decide

theorem store_bounded : store.paramsBounded := by
  refine ⟨fun e h => ?_, fun p h => ?_, by decide, by decide⟩
  · obtain rfl : eng = e := Option.some.inj h
    exact ⟨by decide, by decide, by decide, by decide⟩
  · have : (none : Option (Eng × Op)) = some p := h
    cases this

/-- In RUN, INCH and a levelled stop; and in LASTRUN with the shutter of the paternoster opening waiting for the chain on its CLOSING
floor. -/
theorem witness_BrakeAgreesAlways :
    (let s := withDrive (moving .run 120) false
     s.brakeAgrees ∧ s.paramsBounded ∧ s.speedBounded ∧ s.shutters.listsAgree ∧ s.driveLawful ∧ ∃ t, step s = .next t) ∧
    (let s := withDrive { moving .inch 30 with inch := some ⟨.forward, 600, true, true⟩ } false
     s.brakeAgrees ∧ s.paramsBounded ∧ s.speedBounded) ∧
    (let s := withDrive (levelled 230 (some 20000)) false
     s.brakeAgrees ∧ s.paramsBounded ∧ s.speedBounded) ∧
    (let s := { limited 1 (.waitStill .lower) true true false with
        drive := { moving .lastrun 120 with lastrunTravel := some 5 }, tracker := (withDrive Drive.startUp false).tracker
        floors := { store.floors with table := [floor .opened 1, floor .closing 0] } }
     s.brakeAgrees ∧ s.speedBounded ∧ s.shutters.listsAgree ∧ s.driveLawful) := by
  refine ⟨⟨by unfold State.brakeAgrees; decide, store_bounded, ⟨by decide, by decide, by decide, fun v h => nomatch h⟩,
      by unfold Shutters.listsAgree; decide +kernel, fun _ => ⟨by decide, by decide, by decide, by decide, fun i sh h _ => ?_⟩, _, rfl⟩,
    ⟨by unfold State.brakeAgrees; decide, store_bounded, by decide, by decide, by decide, fun v h => nomatch h⟩,
    ⟨by unfold State.brakeAgrees; decide, store_bounded, by decide, by decide, by decide, fun v _ h => ?_⟩,
    ⟨by unfold State.brakeAgrees; decide, ⟨by decide, by decide, by decide, fun v h => nomatch h⟩,
      by unfold Shutters.listsAgree; decide +kernel, fun _ => ⟨by decide, by decide, by decide, by decide, fun i sh h k => ?_⟩⟩⟩
  · match i, h with
    | 0, h => cases h; exact .inl rfl
    | 1, h => cases h; exact .inl rfl
    | n + 2, h => cases h
  · cases h
    decide +kernel
  · match i, h with
    | 0, h => cases h; exact .inl rfl
    | 1, h => cases h; exact .inr ⟨rfl, rfl⟩
    | n + 2, h => cases h

/-- In RUN with a floor WARNED, a floor CLOSING, and their lamps so. -/
theorem witness_BrakeAgreesAlways_lamps :
    let s := { withDrive (moving .run 120) false with
      floors := { store.floors with table := [{ floor .warned 1 with lit := false }, floor .closing 0] } }
    s.lampsAgree ∧ s.lampsApart ∧ 1 < s.floors.table.length := by
  unfold State.lampsAgree State.lampsApart; decide +kernel

theorem witness_ShutterTimers : (withShutter (.dropping (some 0)) false).shutter? 0 =
      some ⟨.dropping (some 0), false, false, 0, false⟩ ∧
    (withShutter (.raising 0) true).shutterState? 0 = some (.raising 0) ∧
    ShutterState.timer? .opened = none := by decide

theorem witness_ListsAgreeAlways : (limited 0 (.raising 60) true false false).shutters.listsAgree ∧
    (limited 1 (.waitStill .lower) true true false).shutters.listsAgree ∧ (limited 0 (.waitSlot .up) false false true).shutters.listsAgree ∧
    ∃ t, step (limited 0 (.raising 60) true false false) = .next t :=
  ⟨by unfold Shutters.listsAgree; decide +kernel, by unfold Shutters.listsAgree; decide +kernel,
    by unfold Shutters.listsAgree; decide +kernel, _, rfl⟩

/-- Shutter 0 RAISING on an OPENING floor; shutter 1 LOWERING on a CLOSING floor with the chain deemed still. -/
theorem witness_ListsAgreeAlways_lawful :
    (let s := { limited 0 (.raising 60) true false false with
        floors := { store.floors with table := [floor .opening 1, floor .opened 0] } }
     s.shuttersLawful ∧ ∃ t, step s = .next t) ∧
    (let s := { limited 1 (.lowering 60) true false false with
        floors := { store.floors with table := [floor .opened 1, floor .closing 0] } }
     s.shuttersLawful ∧ ∃ t, step s = .next t) := by
  refine ⟨⟨fun i sh h => ?_, _, rfl⟩, ⟨fun i sh h => ?_, _, rfl⟩⟩ <;>
  · match i, h with
    | 0, h => cases h; refine ⟨by decide, by decide, ?_, by decide⟩; rintro (⟨n, h⟩ | h | h) <;> first | rfl | cases h
    | 1, h => cases h; refine ⟨by decide, by decide, ?_, by decide⟩; rintro (⟨n, h⟩ | h | h) <;> first | rfl | cases h
    | n + 2, h => cases h

/-- Entry 0 is the first eligible one, behind entry 1: with its limit not active, and active, in either direction; then no slot free, and
the loop FAULTED. -/
theorem witness_ListsAgreeAlways_arbiter :
    (∀ s ∈ [queued .down true false [none, none], queued .down false true [none, none], queued .up false true [none, none],
        queued .up true false [none, none]],
      s.loop.good = true ∧ s.shutters.listsAgree ∧ s.shutters.slots[0]? = some none ∧ s.shutters.waitList = [1] ++ 0 :: [] ∧
        s.eligible 1 = false ∧ s.eligible 0 = true) ∧
    (queued .down true false [none]).closedLimit 0 = false ∧ (queued .down false true [none]).closedLimit 0 = true ∧
    (queued .up false true [none]).openLimit 0 = false ∧ (queued .up true false [none]).openLimit 0 = true ∧
    (∀ k : Nat, (queued .down true false []).shutters.slots[k]? ≠ some none) := by
  refine ⟨by unfold Shutters.listsAgree; decide +kernel, by decide, by decide, by decide, by decide, fun k => by simp [queued]⟩

/-- R82: the first eligible entry takes the lowest free slot, and the one that waits for the chain keeps its place. -/
theorem test_grant_order :
    (let t := arbiter (queued .down true false [none, none]);
      t.shutterState? 0 = some (.lowering 60000) ∧ t.shutters.waitList = [1] ∧ t.shutters.slots = [some ⟨0, 0⟩, none]) ∧
    (let t := arbiter (queued .up true false [none]); t.shutterState? 0 = some .opened ∧ t.shutters.slots = [none]) := by
  decide +kernel

/-- R81: a shutter joins at the tail and leaves from its place. -/
theorem test_list_order :
    (putShutter 0 ⟨.waitSlot .up, false, false, 0, false⟩ (limited 1 (.waitSlot .down) true true false)).shutters.waitList = [1, 0] ∧
    (putShutter 1 ⟨.opened, true, false, 0, false⟩ (queued .down true false [none])).shutters.waitList = [0] := by decide +kernel

/-- Shutter 0 stands in a stair of zone 0; shutter 1 in a paternoster opening of zone 1, whose drop waits for a chain that moves. -/
theorem witness_FireDropsShutters :
    ((store.mayAsk .F 16 ∧ store.floors.zones[0]? = some ⟨false, 0, 0⟩ ∧ store.floors.table[0]? = some (floor .opened 1)) ∧
      store.shutter? 0 = some ⟨.opened, true, false, 0, false⟩ ∧ store.tracker.still = true ∧
      store.dropDemand 0 = false ∧ (store.shutterCfg 0).zoneMask.testBit 0 = true ∧ (store.shutterCfg 0).kind ≠ 3) ∧
    (let s := withDrive (moving .run 120) false;
      s.dropDemand 1 = false ∧ (s.shutterCfg 1).zoneMask.testBit 1 = true ∧ (s.shutterCfg 1).kind = 3 ∧
        s.tracker.still = false ∧ s.tracker.quietTime < 500) ∧
    ((limited 0 .unknown true false false).shutterState? 0 = some .unknown ∧
      ((limited 0 .unknown true true true).openLimit 0 && (limited 0 .unknown true true true).closedLimit 0) = true) ∧
    ((store.shutterCfg 1).zoneMask.testBit 0 = false ∧ (store.shutterCfg 1).floor ≠ 0) ∧
    (let s := { limited 1 (.waitStill .lower) true true false with tracker := { store.tracker with still := false } };
      s.shutter? 1 = some ⟨.waitStill .lower, true, false, 0, false⟩ ∧ s.drive.released = false ∧
        1 ∈ s.shutters.stillList) := by
  unfold State.mayAsk; decide

/-- Shutter 0 (open limit at point 4, closed at 5) through the changes of its limits that each clause needs. -/
theorem witness_LimitsDecide :
    (let s := scanning store true;
      s.loop.scan = some ⟨[], 0xA5C3, 3⟩ ∧ s.drive.state ≠ .inch ∧ s.tracker.still = true ∧ s.loop.good = true ∧
        limitsRead 0 s 0x50 = (true, false, true, false) ∧ limitsRead 0 s 0x70 = (true, false, true, true) ∧
        limitsRead 0 s 0x40 = (true, false, false, false) ∧ limitsRead 0 s 0x60 = (true, false, false, true)) ∧
    (store.faults.records.length + store.shutters.table.length + store.eng.callCount + 2 ≤ 32 ∧
      store.dropDemand 0 = false ∧ store.floorMode? 0 = some .opened) := by decide +kernel

theorem witness_LimitsDecide_end :
    limitsRead 0 (scanning (limited 0 .unknown true true true) true) 0x50 = (true, true, true, false) ∧
    limitsRead 0 (scanning (limited 0 .unknown true true true) true) 0x60 = (true, true, false, true) ∧
    limitsRead 0 (scanning (limited 0 .unknown true false false) true) 0x50 = (false, false, true, false) ∧
    limitsRead 0 (scanning (limited 0 .closed false false true) true) 0x40 = (false, true, false, false) ∧
    limitsRead 0 (scanning (limited 0 .closed false false true) true) 0x50 = (false, true, true, false) ∧
    limitsRead 0 (scanning (limited 0 (.lowering 5) true false false) true) 0x60 = (false, false, false, true) := by
  decide +kernel

theorem witness_LimitsDecide_travel :
    limitsRead 0 (scanning (limited 0 (.raising 5) true false false) true) 0x50 = (false, false, true, false) ∧
    limitsRead 0 (scanning (limited 0 (.dropping (some 5)) false true false) true) 0x60 = (true, false, false, true) ∧
    limitsRead 0 (scanning (limited 0 .jammed true false false) true) 0x50 = (false, false, true, false) ∧
    limitsRead 1 (scanning (limited 1 (.waitStill .lower) true true false) true) 0x10 = (true, false, false, false) ∧
    limitsRead 0 (scanning (limited 0 .unknown true true false) false) 0x50 = (true, false, true, false) := by
  decide +kernel

/-- Both limits of shutter 1 stop being both active while it waits for the chain after a drop out of INHIBITED (R84). -/
theorem witness_LimitsDecide_over :
    limitsRead 1 (scanning (limited 1 (.waitStill .drop) true true true) true) 0x90 = (true, true, false, true) ∧
    limitsRead 1 (scanning (limited 1 (.waitStill .drop) true true true) true) 0x50 = (true, true, true, false) := by
  decide +kernel

/-- R84: the open limit lost in WAIT_STILL, with both active until now, is a drift, and the closed limit makes the shutter CLOSED. -/
theorem test_drift_over : ((after (.scanEnd 0xA5C3 [0x90, 0, 0])
      (scanning (limited 1 (.waitStill .drop) true true true) true)).shutterState? 1) = some .closed ∧
    (after (.scanEnd 0xA5C3 [0x90, 0, 0])
      (scanning (limited 1 (.waitStill .drop) true true true) true)).faults.records.any (FaultRec.isOf .shutterDrift 1) = true := by
  decide +kernel

theorem witness_ShutterRequests : (store.mayAsk .E 68 ∧ store.shutters.table.length ≤ 2) ∧
    (store.shutter? 0 = some ⟨.opened, true, false, 0, false⟩ ∧ store.loop.good = true ∧
      store.floorMode? (store.shutterCfg 0).floor ≠ some .fire ∧ store.mayMove 0 = true ∧ store.closedLimit 0 = false) ∧
    ((withShutter .closed false).mayAsk .E 69 ∧ (withShutter .closed false).floorMode? 0 = some .opened ∧
      (withShutter .closed false).dropDemand 0 = false ∧ (withShutter .closed false).supplyLow = false) ∧
    (let s := limited 0 .jammed true true true;
      s.mayAsk .E 69 ∧ s.shutter? 0 = some ⟨.jammed, true, false, 0, false⟩ ∧ s.openLimit 0 = true ∧ s.closedLimit 0 = true ∧
        s.floorMode? 0 = some .opened ∧ s.dropDemand 0 = false ∧ (withShutter .closed false).openLimit 0 = true ∧
        (limited 0 .closed false false true).openLimit 0 = false) ∧
    ((withShutter (.waitSlot .up) false).shutterState? 0 = some (.waitSlot .up)) ∧
    (store.mayAsk .E 70 ∧ store.dropDemand 0 = false ∧ (withShutter .inhibited true).shutterState? 0 = some .inhibited) := by
  unfold State.mayAsk; decide

/-- Shutter 1 guards a paternoster opening: tested in WARNING with the chain still, inhibited in RUN and in OFF. -/
theorem witness_ShutterRequests_departs :
    (let s := withDrive { Drive.startUp with state := .warning, warningLines := some [0] } true;
      s.mayAsk .E 68 ∧ s.shutterState? 1 = some .opened ∧ s.mayMove 1 = true ∧ s.closedLimit 1 = false ∧
        (s.shutterCfg 1).kind = 3 ∧ s.floorMode? (s.shutterCfg 1).floor = some .opened) ∧
    (let s := withDrive (moving .run 120) false;
      s.mayAsk .E 70 ∧ s.shutterState? 1 = some .opened ∧ s.dropDemand 1 = false ∧ s.faults.records.length < 32) ∧
    store.drive.state = .off ∧ (store.shutterCfg 0).kind ≠ 3 := by
  unfold State.mayAsk; decide

/-- R62, R47, R93: SHUTTER_INHIBIT of an OPEN shutter of a paternoster opening brakes a running chain and ends WARNING. -/
theorem test_inhibit_departs :
    (let t := after (.shutterInhibitOn .E 1) (withDrive (moving .run 120) false);
      (t.drive.state, t.drive.brakeExit, t.drive.stopCause) = (.brake, some .halt, some (.fault .patShutterOpened)) ∧
        t.faults.records.any (FaultRec.isOf .patShutterOpened 0) = true) ∧
    (after (.shutterInhibitOn .E 1)
      (withDrive { Drive.startUp with state := .warning, warningLines := some [0] } true)).drive.state = .off := by decide +kernel

/-- R78: a grant with the open limit active ends at once, also where the closed limit is active too. -/
theorem test_grant_at_limit :
    (after (.shutterRaise .E 0) (limited 0 .jammed true true true)).shutterState? 0 = some .opened ∧
    (after (.shutterRaise .E 0) (limited 0 .jammed true false true)).shutterState? 0 = some (.raising 60000) := by decide +kernel

/-- Point 16 is call point 0, point 9 the answer push of line 0, point 0 a landing trip. -/
theorem witness_ScanBringsEvents :
    (let s := scanning store true;
      let tripped := after (.scanEnd 0xA5C3 [0x51, 0, 0]) s;
      let pressed := after (.scanEnd 0xA5C3 [0x50, 0, 1]) s;
      let answered := after (.scanEnd 0xA5C3 [0x50, 2, 0]) s;
      s.loop.scan = some ⟨[], 0xA5C3, 3⟩ ∧ s.loop.good = true ∧ (s.input 0 = false ∧ tripped.input 0 = true) ∧
        0 ∈ s.eng.trips.take 4 ∧ (s.input 16 = false ∧ pressed.input 16 = true ∧ pressed.input 17 = false) ∧
        (s.input 9 = false ∧ answered.input 9 = true ∧ answered.input 11 = false) ∧
        (∀ i < 2, s.openLimit i = pressed.openLimit i ∧ s.closedLimit i = pressed.closedLimit i)) ∧
    ((withCall call).bells.calls.filter (fun c => c.callPoint == 0 && c.state == .pending) = [call] ∧
      store.bells.calls = [] ∧ store.bells.nextCallId = 1) ∧
    ((List.replicate 24 call).length = 24 ∧ [{ call with state := .answered }] = [] ++ { call with state := .answered } :: []) ∧
    (let s := { withLine ⟨0, false, .idle, false, 0, 0, [], some 7⟩ with
        bells := { (withCall call).bells with lines := ⟨0, false, .idle, false, 0, 0, [], some 7⟩ :: store.bells.lines.drop 1 } };
      (s.line? 0).bind (·.lastCall) = some 7 ∧ s.call? 7 = some call ∧ s.ringApplies = false) ∧
    (let d := { Drive.startUp with state := .inch, inch := some ⟨.forward, 600, false, true⟩, inchOrigin := some .off };
      (withDrive d true).drive.inch = some ⟨.forward, 600, false, true⟩) := by decide +kernel

/-- Shutter 1 of a paternoster opening loses its open limit in RUN, WARNING and OFF, with no trip beside it. -/
theorem witness_ScanBringsEvents_departs :
    ∀ d ∈ [moving .run 120, { Drive.startUp with state := .warning, warningLines := some [0] }, Drive.startUp],
      let s := scanning (withDrive d (!d.released)) true
      s.shutterState? 1 = some .opened ∧ limitsRead 1 s 0x10 = (true, false, false, false) ∧ (s.shutterCfg 1).kind = 3 ∧
        s.faults.records.length + s.shutters.table.length < 32 ∧
        ∀ p ∈ s.eng.trips.take 4, (after (.scanEnd 0xA5C3 [0x10, 0, 0]) s).input p = false := by decide +kernel

/-- R62, R84, R93: a drift out of OPEN at a paternoster opening brakes a running chain; in OFF it raises nothing for the drive. -/
theorem test_drift_departs :
    (let t := after (.scanEnd 0xA5C3 [0x10, 0, 0]) (scanning (withDrive (moving .run 120) false) true);
      (t.drive.state, t.drive.brakeExit, t.drive.stopCause) = (.brake, some .halt, some (.fault .patShutterOpened)) ∧
        t.faults.records.any (FaultRec.isOf .patShutterOpened 0) = true) ∧
    (after (.scanEnd 0xA5C3 [0x10, 0, 0]) (scanning store true)).faults.records.any
      (FaultRec.isOf .patShutterOpened 0) = false := by decide +kernel

/-- Inching, its release delivered by this scan or not. -/
def inching (started : Bool) : Drive :=
  { Drive.startUp with state := .inch, inch := some ⟨.forward, 600, started, true⟩, inchOrigin := some .off }

/-- A trip in INCH, in a scan that releases the brake and in one that does not, with no press; and a trip beside a departure in RUN. -/
theorem witness_ScanBringsEvents_inch :
    (∀ b ∈ [false, true],
      let s := scanning (withDrive (inching b) true) true
      let t := after (.scanEnd 0xA5C3 [0x51, 0, 0]) s
      s.drive.state = .inch ∧ s.drive.inch = some ⟨.forward, 600, b, true⟩ ∧ (s.input 0 = false ∧ t.input 0 = true) ∧
        (s.input 16 = false ∧ t.input 16 = false ∧ t.input 17 = false) ∧
        ∀ i < 2, s.openLimit i = t.openLimit i ∧ s.closedLimit i = t.closedLimit i) ∧
    (let s := scanning (withDrive (moving .run 120) false) true
     limitsRead 1 s 0x11 = (true, false, false, false) ∧ (after (.scanEnd 0xA5C3 [0x11, 0, 0]) s).input 0 = true) := by decide +kernel

/-- Shutter 0, JAMMED before and raised, waits at its open limit for the slot of shutter 1, which the release of the brake stops. -/
def raisedJammed : State :=
  let s := scanning (withDrive (inching false) true) true
  { s with
    shutters := ⟨[⟨.waitSlot .up, true, false, 0, false⟩, ⟨.raising 5, true, false, 0, false⟩], [some ⟨1, 0⟩], [0], []⟩
    loop := { s.loop with debounced := s.loop.debounced.set 6 false }
    faults := ⟨[record .trip 0 true, record .shutterJam 0 true], false⟩ }

/-- R60, R80, R78: with a trip in the scan that releases the brake, the end of SHUTTER_JAM is reported and TRIP stays as it was. -/
theorem test_inch_release_ends_jam :
    let t := after (.scanEnd 0xA5C3 [0x11, 0, 0]) raisedJammed
    t.drive.state = .inch ∧ t.shutterState? 0 = some .opened ∧ t.shutterState? 1 = some (.waitSlot .up) ∧
      t.faults.records.map (fun r => (r.kind, r.active, r.occurrences)) = [(.trip, true, 1), (.shutterJam, false, 1)] := by decide +kernel

theorem witness_Strokes :
    (let c : Current := ⟨⟨.call, 4, some 7⟩, [2, 3], 0, 1, 1000, 1300⟩;
      (withLine (sounding c false)).line? 0 = some (sounding c false) ∧ c.next? = some (1, 0)) ∧
    (withLine ⟨0, false, .fire 300, false, 0, 0, [], none⟩).line? 0 = some ⟨0, false, .fire 300, false, 0, 0, [], none⟩ ∧
    (let c : Current := ⟨⟨.call, 4, some 7⟩, [1], 0, 0, 2000, 2000⟩;
      c.next? = none ∧ c.req.cls = .call ∧ (withLine (sounding c false)).ringApplies = false) ∧
    (let c : Current := ⟨⟨.startWarning, 1, none⟩, [3, 3], 1, 2, 2000, 4200⟩;
      let s := { withLine (sounding c false) with drive := { Drive.startUp with state := .warning, warningLines := some [0, 1] } };
      s.line? 0 = some (sounding c false) ∧ c.next? = none ∧ s.drive.warningLines = some [0, 1] ∧ [0, 1].erase 0 ≠ []) ∧
    (let c : Current := ⟨⟨.call, 4, some 7⟩, [2, 3], 0, 0, 80, 80⟩;
      let s := withLine (sounding c true);
      s.line? 0 = some (sounding c true) ∧ (∀ o ∈ s.bells.oldTails, o.line ≠ 0) ∧ s.loop.good = true ∧
        s.senseActive 0 = false) := by decide

/-- The ends of the patterns of each class, with the queue empty, with one that waits and with the fire ring to begin; the call leaves
a round of two lines and one of its own line alone. -/
theorem witness_Strokes_end :
    (∀ cls ∈ [SoundClass.closing, .trouble, .call], ∀ q ∈ [[], [SoundReq.mk .call 5 (some 9)]],
      let c : Current := ⟨⟨cls, 3, some 7⟩, [1], 0, 0, 2000, 2000⟩
      let k : Line := { sounding c false with queue := q }
      (withLine k).line? 0 = some k ∧ k.faulted = false ∧ k.activity = .pattern c ∧ c.next? = none ∧
        (withLine k).ringApplies = false) ∧
    (let c : Current := ⟨⟨.trouble, 3, none⟩, [3], 0, 2, 2000, 2000⟩;
      let s := ringing [line 8 (.pattern c) false []];
      s.line? 8 = some (line 8 (.pattern c) false []) ∧ c.next? = none ∧ s.ringApplies = true) ∧
    (∀ ls ∈ [[0, 1], [0]], (withCall { call with roundLines := some ls, nextDue := none }).call? 7 =
      some { call with roundLines := some ls, nextDue := none } ∧ 0 ∈ ls) ∧
    (call.roundsDone + 1 ≠ store.eng.nRepeat ∧ 2 + 1 = store.eng.nRepeat) := by decide

/-- A stroke of the ring, a tail with a request that waits, and a stroke that an apply left over. -/
theorem witness_Strokes_tail :
    (∀ a ∈ [Activity.fire 80, .tail], let k := line 0 a true [⟨.trouble, 3, none⟩];
      let s := ringing [k];
      s.line? 0 = some k ∧ k.drive = true ∧ k.faulted = false ∧ (∀ o ∈ s.bells.oldTails, o.line ≠ 0) ∧ k.faultyRun = 0) ∧
    (let s := withLine (line 0 .tail true [⟨.closing, 2, none⟩]);
      s.line? 0 = some (line 0 .tail true [⟨.closing, 2, none⟩]) ∧ s.ringApplies = false ∧ s.loop.good = true ∧
        s.senseActive 0 = false ∧ (withLine { line 0 .tail true [] with faultyRun := 1 }).ringApplies = false) ∧
    (let s := { store with bells := { store.bells with oldTails := [⟨1, 30, 80⟩, ⟨0, 31, 80⟩] } };
      s.bells.oldTails = [⟨1, 30, 80⟩] ++ ⟨0, 31, 80⟩ :: [] ∧ (∀ x ∈ s.bells.oldTails.take 1, x.line ≠ 0)) ∧
    ((∀ o ∈ store.bells.oldTails, o.line ≠ 0) ∧ store.line? 0 = some (line 0 .idle false [])) := by decide

/-- R110: the tail ends, its second faulty stroke apart, and the line takes up its queue; R121: an old stroke ends unjudged. -/
theorem test_tail_ends : ((after (.strokeEnd 0) (withLine (line 0 .tail true [⟨.closing, 2, none⟩]))).line? 0).map
      (fun k => (k.activity, k.drive, k.queue, k.faultyRun)) =
      some (.pattern ⟨⟨.closing, 2, none⟩, store.codeGroups 2, 0, 0, 0, 0⟩, true, [], 1) ∧
    (after (.strokeEnd 0) { store with bells := { store.bells with oldTails := [⟨1, 30, 80⟩, ⟨0, 31, 80⟩] } }).bells.oldTails =
      [⟨1, 30, 80⟩] := by decide +kernel

theorem witness_QueuesKeepTheirRank :
    [SoundReq.mk .closing 2 none, ⟨.call, 4, some 7⟩].Pairwise (fun a b => a.cls.code ≤ b.cls.code) := by decide

/-- A line holding a CLOSING and a CALL behind another, CH with a TROUBLE waiting; and an EVAC entry before an OFFICE entry while slot
4 is on air, each under a step that runs. -/
theorem witness_QueuesKeepTheirRank_step :
    (let s := { store with bells := { store.bells with lines :=
        [line 0 .tail true [⟨.closing, 2, none⟩, ⟨.call, 4, some 7⟩], line 1 .idle false [], line 8 .tail true [⟨.trouble, 3, none⟩]] } };
      s.soundQueuesLawful ∧ ∃ t, step s = .next t) ∧
    (let s := withAnnounce { (onAir .phrase).announce with queue := [⟨7, .evac, 0, some 5⟩, ⟨5, .office, 0, none⟩] };
      s.announce.queueLawful ∧ ∃ t, step s = .next t) := by
  refine ⟨⟨fun n k h => ?_, _, rfl⟩, ⟨by decide, by decide, by decide, by decide, fun p h => ?_⟩, _, rfl⟩
  · have := List.mem_of_find?_eq_some h
    simp only [List.mem_cons, List.not_mem_nil, or_false] at this
    rcases this with rfl | rfl | rfl <;> exact ⟨by decide, by decide, by decide, fun _ => by decide⟩
  · obtain rfl : playout .phrase = p := by simpa [withAnnounce, onAir] using h
    decide

theorem witness_CallsAndCodes : ((withCall call).call? 7 = some call ∧ call.state = .pending ∧ call.roundLines = none ∧
      (withCall call).firePresent = false) ∧
    ({ fire with bells := (withCall call).bells } : State).firePresent = true ∧
    ((withCall call).codeLines 4).filter (fun n => (withCall call).takesReq n ⟨.call, 4, some 7⟩) = [0, 1] ∧
    ((withCall { call with code := 1 }).codeLines 1 = [] ∧ 2 + 1 = store.eng.nRepeat) ∧
    ((withCall call).mayAsk .O 43 ∧
      (withCall call).bells.calls.find? (fun c => c.callPoint == 0 && c.state == .pending) = some call ∧
      ∀ d ∈ (withCall call).bells.calls, d.callId = call.callId → d = call) ∧
    ((withCall { call with state := .answered }).mayAsk .O 44 ∧
      ∀ c ∈ (withCall { call with state := .answered }).bells.calls, c.callPoint = 0 → c.state ≠ .pending) := by
  unfold State.mayAsk; decide

theorem store_sized : store.sized :=
  ⟨rfl, rfl, rfl, rfl, rfl, by decide +kernel, rfl, ⟨rfl, rfl, rfl⟩, by decide, fun _ h => nomatch h⟩

theorem witness_CallsAndCodes_code : store.mayAsk .O 42 ∧ opSized store.store.op := by unfold State.mayAsk opSized; decide

/-- The record WAITING for 18:00 of the day, with the clock one second before a time. -/
def waiting (t : Nat) (p : Plan) : State := { store with clock := ⟨t - 1, true, 32768, 32768, 0⟩, plan := p }

theorem witness_SecondsAndStages :
    (let s := waiting 1728064800 store.plan;
      s.plan.status = .waiting ∧ s.clock.isSet = true ∧ s.supervising = true ∧ s.firePresent = false ∧
        s.plan.beforeWrap = false ∧ s.plan.closeTime ≤ s.clock.count + 1 ∧ s.clock.count + 1 < 4294967296 ∧
        (s.clock.count + 1) % 86400 ≠ 0 ∧ 1 < s.eng.floorCount ∧ 0 < s.store.op.stagger ∧
        s.store.op.order[0]? = some 1 ∧ s.floors.table[1]? = some (floor .opened 0) ∧ s.copy? 2 ≠ none) ∧
    (let s := { waiting 1728064800 store.plan with store := { store.store with op := { op with stagger := 0 } } };
      s.store.op.stagger = 0 ∧ s.eng.floorCount ≤ 8 ∧ s.planDayPast = false ∧ 1 ∈ s.store.op.order.take s.eng.floorCount) ∧
    (let s := waiting (1728064800 - 60 * 15) store.plan;
      s.clock.count + 1 < 1728064800 ∧ s.plan.warn1 = .pending ∧ 1728064800 - 60 * op.w1 ≤ s.clock.count + 1 ∧
        s.clock.count + 1 < 1728064800 - 60 * op.w2 ∧ s.copy? 0 ≠ none) ∧
    (let s := waiting (1728064800 - 60 * 5) { store.plan with warn1 := .taken };
      s.clock.count + 1 < 1728064800 ∧ s.plan.warn2 = .pending ∧ 1728064800 - 60 * op.w2 ≤ s.clock.count + 1 ∧
        s.plan.warn1 ≠ .pending ∧ s.copy? 1 ≠ none) ∧
    (1728064800 - 60 * op.w1 < 1728064800 - 60 * op.w2) := by decide

/-- A midnight with a record that has settled and with one that is carried, not due before 00:40; a wrap; a second with nothing due. -/
theorem witness_SecondsAndStages_rebuilt :
    (let s := waiting 1728086400 { store.plan with status := .done, close := .taken, nextPosition := 2 }
     (s.clock.count + 1) % 86400 = 0 ∧ s.plan.status ≠ .waiting ∧ s.plan.status ≠ .running) ∧
    (let s := waiting 1728086400 { store.plan with baseClose := some 1728088800 }
     ({ s with clock := { s.clock with count := 1728086400 } } : State).carries s.plan ∧ (s.clock.count + 1) % 86400 = 0 ∧
       ({ s with clock := { s.clock with count := 1728086400 } } : State).planStands s.plan) ∧
    (waiting 4294967296 store.plan).clock.count + 1 = 4294967296 ∧
    (let s := waiting 1728040000 store.plan
     (s.clock.count + 1) % 86400 ≠ 0 ∧ ({ s with clock := { s.clock with count := 1728040000 } } : State).planStands s.plan) := by
  unfold State.carries State.planStands State.dayPast State.stageDue; decide

/-- R129, R132, R133: at midnight the record of the day over becomes blank for the new day, with the closing time that the exception
gives, and a carried one stands. -/
theorem test_midnight_rebuilds :
    (let s := waiting 1728086400 { store.plan with status := .done, close := .taken, nextPosition := 2 }
     (after .secondTick s).plan = Plan.blank 20001 ∧
       (after .secondTick { s with store := { s.store with op := { op with exceptions := [⟨20001, some 36000⟩] } } }).plan =
         { Plan.blank 20001 with baseClose := some 1728122400, status := .waiting }) ∧
    (let p := { store.plan with baseClose := some 1728088800 }
     (after .secondTick (waiting 1728086400 p)).plan = p) := by decide +kernel

/-- The record RUNNING, waiting for the position `i`. -/
def running (i : Nat) : State :=
  { store with plan := { store.plan with status := .running, close := .taken, nextPosition := i, positionWait := some 0 } }

/-- The record RUNNING, waiting for position 1, that of floor 0, with shutter `i` in a state, its limits as given. -/
def closing (i : Nat) (st : ShutterState) (opened closed : Bool) : State :=
  { limited i st true opened closed with plan := (running 1).plan }

/-- Floor 1 closes, its only shutter at a paternoster opening, by the state of the drive; then floor 0, whose shutter the chain does not
concern, by the state of the shutter. -/
theorem witness_ClosingProceeds_notice :
    (∀ d ∈ [moving .run 120, moving .accel 60, moving .lastrun 120, moving .reference 12, levelled 100 none, settling,
        { Drive.startUp with state := .warning, warningLines := some [0] }, Drive.startUp,
        { Drive.startUp with state := .brake, brakeExit := some .off }, { Drive.startUp with state := .halt }],
      let s := { running 0 with drive := d, tracker := { store.tracker with still := false, quietTime := 0 } }
      (s.drive.state ≠ .reference ∨ s.tracker.quietTime < 500) ∧ s.tracker.still = false ∧
        s.shutterState? 1 = some .opened ∧ (s.shutterCfg 1).floor = 1 ∧ (s.shutterCfg 1).kind = 3 ∧ (s.shutterCfg 0).floor ≠ 1) ∧
    (running 0).tracker.still = true ∧
    ((closing 0 .opened true false).shutterState? 0 = some .opened ∧
      (closing 0 (.raising 5) false false).shutterState? 0 = some (.raising 5) ∧
      (closing 0 (.waitSlot .up) false false).closedLimit 0 = false ∧ (closing 0 (.waitSlot .up) false true).closedLimit 0 = true ∧
      (closing 0 .opened true false).store.op.order[1]? = some 0) := by decide +kernel

/-- R49: RUN enters LASTRUN with lastrun_travel 0 and the reference as it stands, and REFERENCE brakes. -/
theorem test_closing_notice :
    (let d := (after .positionWaitExpiry { withDrive (moving .run 120) false with plan := (running 0).plan }).drive;
      (d.state, d.lastrunTravel, d.vRef) = (.lastrun, some 0, 120)) ∧
    (let d := (after .positionWaitExpiry { withDrive (moving .reference 12) false with plan := (running 0).plan }).drive;
      (d.state, d.brakeExit, d.stopCause) = (.brake, some .off, some .closing)) := by decide +kernel

/-- R75: what the floor's closing does to a shutter, by its state: OPEN and RAISING it is granted a slot and lowers, waiting for UP at its
closed limit it is CLOSED, and at a paternoster opening with the chain MOVING it waits to be lowered. -/
theorem test_closing_lowers :
    (after .positionWaitExpiry (closing 0 .opened true false)).shutterState? 0 = some (.lowering 60000) ∧
    (after .positionWaitExpiry (closing 0 (.raising 5) false false)).shutterState? 0 = some (.lowering 60000) ∧
    (after .positionWaitExpiry (closing 0 (.waitSlot .up) false true)).shutterState? 0 = some .closed ∧
    (after .positionWaitExpiry { withDrive (moving .run 120) false with plan := (running 0).plan }).shutterState? 1 =
      some (.waitStill .lower) := by decide +kernel

theorem witness_ClosingProceeds :
    ((running 0).plan.status = .running ∧ (running 0).plan.positionWait = some 0 ∧ (running 0).store.op.order[0]? = some 1 ∧
      (running 0).floors.table[1]? = some (floor .opened 0) ∧ 0 + 1 < (running 0).eng.floorCount) ∧
    ((running 1).plan.nextPosition = 1 ∧ (running 1).store.op.order[1]? = some 0 ∧ (running 1).eng.floorCount ≤ 1 + 1 ∧
      (running 1).planDayPast = false) ∧
    (store.mayAsk .O 37 ∧ store.plan.status ≠ .running ∧ store.firePresent = false ∧ store.clock.isSet = true ∧
      store.store.op.order[0]? = some 1 ∧ 1 < store.eng.floorCount ∧ 0 < store.store.op.stagger) ∧
    (let s := { store with floors := { store.floors with table := [floor .opened 1, floor .closed 0] } };
      s.floors.table[1]? = some (floor .closed 0) ∧ s.floors.table[0]? = some (floor .opened 1) ∧ 0 ∈ s.store.op.order) ∧
    ((running 0).mayAsk .O 37 ∧ (running 0).stillToClose ≠ [] ∧ 0 + 1 < (running 0).eng.floorCount) ∧
    fire.firePresent = true := by unfold State.mayAsk; decide

/-- HOLD_CLOSING at each end of its range, with base_close a time and NONE. -/
theorem witness_ClosingProceeds_hold : (store.mayAsk .O 36 ∧ store.plan.status = .waiting ∧ store.plan.baseClose = some 1728064800) ∧
    ((running 0).mayAsk .O 36 ∧ (running 0).plan.status ≠ .waiting) ∧
    ({ store with plan := Plan.blank 20000 } : State).plan.baseClose = none ∧
    ((1 ≤ 1 ∧ 1 ≤ 60) ∧ (1 ≤ 60 ∧ 60 ≤ 60) ∧ (0 = 0 ∨ 60 < 0) ∧ (61 = 0 ∨ 60 < 61)) := by unfold State.mayAsk; decide

theorem witness_PlanParameters : (store.mayAsk .O 32 ∧ 4294967295 < 4294967296 ∧ loading.clock.isSet = false) ∧
    (store.mayAsk .O 33 ∧ store.weekday store.plan.day ≠ 6 ∧
      [0, 1].Perm (List.range store.eng.floorCount) ∧ store.plan.status ≠ .running ∧ (running 0).plan.status = .running) ∧
    (store.mayAsk .O 34 ∧ store.store.op.exceptions.Pairwise (fun a b => a.day < b.day) ∧ store.clock.count / 86400 ≤ 20000 ∧
      ((List.range 16).map fun d => PlanException.mk (20000 + d) none).length = 16) := by unfold State.mayAsk; decide

/-- The record of the day written, not carried; a record of the day before, carried; the list changed and left as it was. -/
theorem witness_PlanParameters_rebuilt :
    ((store.plan.day + store.eng.epoch) % 7 = 4 ∧ ¬ store.carries store.plan ∧ store.planStands store.plan ∧
      store.clock.isSet = true ∧ store.supervising = true) ∧
    (let s := { store with plan := { store.plan with day := 19999 } }; s.carries s.plan) ∧
    (let xs : List PlanException := [⟨20000, some 40000⟩]
     xs.filter (fun x => x.day != 20000) ≠ xs ∧ xs.filter (fun x => x.day != 20001) = xs) := by
  unfold State.carries State.planStands State.dayPast State.stageDue; decide

/-- R129, R133: base_close of the day from the schedule, from the exception that overrides it, and NONE; a new clock day makes the
record blank. -/
theorem test_plan_rebuilt :
    (after (.writeSchedule .O 4 72000) store).plan = { store.plan with baseClose := some 1728072000 } ∧
    (after (.writeException .O 20000 40000) store).plan = { store.plan with baseClose := some 1728040000 } ∧
    (after (.writeException .O 20000 0xFFFFFFFF) store).plan = { store.plan with baseClose := none, status := .none } ∧
    (after (.setClock .O 1728640000) { store with plan := { store.plan with status := .done, warn1 := .taken, close := .taken, nextPosition := 2 } }).plan =
      { Plan.blank 20007 with baseClose := some 1728669600, status := .waiting } := by decide +kernel

theorem witness_AnnouncementRequests : store.mayAsk .O 40 ∧
    (withAnnounce { store.announce with queue := List.replicate 8 ⟨0, .closing, 0, none⟩ }).announce.queue.length = 8 ∧
    (onAir .gap).onAir 4 = true ∧ store.copy? 3 = none ∧ (store.copy? 4).isSome = true ∧ store.queued 4 = false ∧
    store.announce.port.state = .idle ∧ store.mayAsk .O 41 ∧
    (withAnnounce { store.announce with queue := [⟨4, .office, 0, none⟩] }).announce.queue.find? (fun q => q.slot == 4) =
      some ⟨4, .office, 0, none⟩ ∧
    (withAnnounce { store.announce with queue := [⟨7, .evac, 0, none⟩] }).announce.queue.find? (fun q => q.slot == 7) =
      some ⟨7, .evac, 0, none⟩ ∧
    (onAir .lead).announce.playout = some (playout .lead) := by unfold State.mayAsk; decide

theorem witness_AnnouncementRequests_script : (store.mayAsk .O 39 ∧ store.sized) ∧ store.onAir 4 = false ∧
    (onAir .phrase).onAir 4 = true ∧ (onAir .phrase).mayAsk .O 39 := by
  refine ⟨⟨?_, store_sized⟩, ?_⟩ <;> unfold State.mayAsk <;> decide

/-- Zone 0 alarms with a call waiting and sounding, the plan WAITING, and announcements queued and on air. -/
theorem witness_FireOnTheBuilding :
    (store.mayAsk .F 16 ∧ store.floors.zones[0]? = some ⟨false, 0, 0⟩ ∧ store.floors.table[0]? = some (floor .opened 1) ∧
      (floor .opened 1).mode ≠ .fire) ∧
    (store.line? 0 = some (line 0 .idle false []) ∧
      (withLine (sounding ⟨⟨.call, 4, some 7⟩, [1], 0, 0, 0, 0⟩ true)).line? 0 =
        some (sounding ⟨⟨.call, 4, some 7⟩, [1], 0, 0, 0, 0⟩ true) ∧
      (withLine (line 0 .tail true [⟨.trouble, 3, none⟩])).line? 0 = some (line 0 .tail true [⟨.trouble, 3, none⟩])) ∧
    (store.plan.status = .waiting ∧ store.planDayPast = false ∧ (running 0).plan.status = .running ∧
      ({ store with plan := Plan.blank 20000 } : State).plan.status ≠ .waiting) ∧
    ((onAir .phrase).announce.playout = some (playout .phrase) ∧ (playout .phrase).phase ≠ .tail ∧
      (playout .phrase).cls = .office ∧ (playout .phrase).cancelled = false) ∧
    ((withPort (port .playing true)).announce.port.state = .playing ∧ (withPort (port .starting false)).announce.port.state = .starting) ∧
    (store.copy? 7 ≠ none ∧ store.queued 7 = false ∧ store.announce.playout = none ∧ store.announce.port.state = .idle) ∧
    (let s := withAnnounce { store.announce with queue := [⟨7, .evac, 0, some 5⟩] };
      s.queued 7 = true ∧ s.announce.playout.any (fun p => p.cls == .office || p.cls == .closing) = false) := by
  unfold State.mayAsk; decide

/-- Fire on floor 0 since before, the record WAITING; zone 1 brings floor 1 into FIRE, with a CLOSING entry in the queue. -/
def fireSpreads : State :=
  { fire with announce := { store.announce with queue := [⟨7, .evac, 0, some 5⟩, ⟨0, .closing, 0, none⟩] } }

theorem witness_FireOnTheBuilding_spreads :
    (fireSpreads.mayAsk .F 16 ∧ fireSpreads.floors.zones[1]? = some ⟨false, 1, 0⟩ ∧
      fireSpreads.floors.table[1]? = some (floor .opened 0) ∧ (floor .opened 0).mode ≠ .fire) ∧
    fireSpreads.plan.status = .waiting ∧ fireSpreads.firePresent = true ∧ store.firePresent = false := by
  unfold State.mayAsk; decide

/-- R140: the floor that begins the fire abandons a WAITING record; a further floor does not abandon one built since. -/
theorem test_fire_and_the_plan :
    (after (.zoneAlarm .F 0) store).plan.status = .abandoned ∧
    (let t := after (.zoneAlarm .F 1) fireSpreads;
      t.plan = store.plan ∧ t.floorMode? 1 = some .fire ∧ (⟨0, .closing, 0, none⟩ ∈ t.announce.queue)) ∧
    (after (.zoneAlarm .F 1) { fireSpreads with plan := (running 0).plan }).plan.status = .abandoned := by decide +kernel

theorem witness_FireOnTheBuilding_evac : (withAnnounce { store.announce with queue := [⟨7, .evac, 0, some 5⟩] }).announce.evacSlot :=
  ⟨by decide, fun _ h => nomatch h⟩

theorem witness_PlayoutProceeds : ((onAir .lead).announce.playout = some (playout .lead) ∧
      (onAir .lead).announce.port.state = .idle ∧ (onAir .lead).copy? 4 = some ⟨[210, 211], 3⟩) ∧
    (onAir .tail).announce.queue = [] ∧ (onAir .tail).firePresent = false ∧
    (let s := withAnnounce { store.announce with queue := [⟨7, .evac, 0, some 0⟩] };
      s.announce.queue = ⟨7, .evac, 0, some 0⟩ :: [] ∧ s.announce.playout = none ∧ s.announce.port.state = .idle) := by decide

/-- The tail of an EVAC playout in fire, with an OFFICE entry waiting or none; of an OFFICE playout in fire with the EVAC entry queued; and
without fire with an OFFICE entry queued. -/
def tailing (c : PlayClass) (slot : Nat) (inFire : Bool) (qs : List QueueEntry) : State :=
  { (if inFire then fire else store) with
    announce := { store.announce with playout := some { playout .tail with slot := slot, cls := c }, queue := qs } }

theorem witness_PlayoutProceeds_tail :
    (∀ qs ∈ [[], [⟨4, .office, 0, none⟩]],
      let s := tailing .evac 7 true qs
      s.firePresent = true ∧ s.copy? 7 ≠ none ∧ (∀ q ∈ s.announce.queue, q.slot ≠ 7 ∧ q.cls ≠ .evac) ∧
        s.announce.playout = some { playout .tail with slot := 7, cls := .evac }) ∧
    (let s := tailing .office 4 true [⟨7, .evac, 0, none⟩, ⟨5, .office, 0, none⟩]
     s.announce.queue = ⟨7, .evac, 0, none⟩ :: [⟨5, .office, 0, none⟩] ∧ s.queued 7 = true ∧ s.announce.port.state = .idle) ∧
    (let s := tailing .closing 2 false [⟨4, .office, 0, none⟩]
     s.announce.queue = ⟨4, .office, 0, none⟩ :: [] ∧ s.firePresent = false) := by decide

/-- R154, R151: the next evacuation waits out its gap at the head of the queue; an entry that may play begins at the tail's end. -/
theorem test_evac_tail :
    (let t := after .playoutTailEnd (tailing .evac 7 true [⟨4, .office, 0, none⟩])
     t.announce.queue = [⟨7, .evac, 1728032400, some 5000⟩, ⟨4, .office, 0, none⟩] ∧ t.announce.playout = none) ∧
    (let t := after .playoutTailEnd (tailing .office 4 true [⟨7, .evac, 0, none⟩, ⟨5, .office, 0, none⟩])
     t.announce.queue = [⟨5, .office, 0, none⟩] ∧ t.announce.playout.map (fun p => (p.slot, p.cls, p.phase)) =
       some (7, .evac, .lead)) := by decide +kernel

theorem witness_PlayerPort :
    (withPort { port .starting false with outbox := [.play 210] }).announce.port.outbox = .play 210 :: [] ∧
    (withPort (port .starting false)).announce.port.state = .starting ∧ (withPort (port .idle false)).announce.port.readyHigh
      = false ∧
    (let s := withAnnounce { store.announce with playout := some (playout .phrase), port := port .playing true };
      s.announce.port.state = .playing ∧ s.announce.port.abortWait = none ∧ s.announce.playout = some (playout .phrase) ∧
        s.copy? 4 = some ⟨[210, 211], 3⟩ ∧ (playout .phrase).phraseIndex + 1 < 2 ∧ (playout .phrase).phase ≠ .tail) ∧
    (withPort { port .playing true with abortWait := some 0 }).announce.port.abortWait = some 0 ∧
    (withPort { port .faulted false with faultCause := some .startNotSeen }).announce.port.state = .faulted ∧
    loading.announce.port.startUpLeft = some 2000 := by decide

/-- The words whose result the status may give: outstanding, gone with its record, of a phrase cut short, and none. -/
theorem witness_PlayerPort_results : (statusMissing 2 = true ∧ (2 : Word).getLsbD 1 = true ∧ (2 : Word).getLsbD 0 = false) ∧
    ∀ due ∈ [ResultDue.nothing, .standing, .gone, .cut], ∀ x ∈ [PlayerWord.play 210, .abort, .status],
      (withAnnounce { store.announce with
        playout := some (playout .tail), port := { port .idle false with outbox := [x], resultDue := due } }).announce.port.outbox = x :: [] := by
  decide

theorem witness_Scans : (store.store.state = .supervising ∧ store.loop.scan = none) ∧
    ({ store with loop := { store.loop with scan := some ⟨[], 0xA5C3, 3⟩, badRun := 2 } } : State).loop.scan =
      some ⟨[], 0xA5C3, 3⟩ ∧ (0 : Word) ≠ 0xA5C3 ∧ store.loop.good = true ∧ (withDrive (moving .run 120) false).drive.driven = true ∧
    (withDrive { Drive.startUp with state := .warning } true).drive.state = .warning := by decide

theorem witness_Scans_sized : ({ store with loop := { store.loop with scan := some ⟨[], 0xA5C3, 3⟩ } } : State).sized :=
  ⟨rfl, rfl, rfl, rfl, rfl, by decide +kernel, rfl, ⟨rfl, rfl, rfl⟩, by decide, fun _ h => nomatch h⟩

theorem witness_AnalogMonitor : store.sized ∧ (∀ c ∈ store.analog, c.evaluated = false) ∧
    (store.chanCfg 0).high < 1023 ∧ (store.chanCfg 0).low ≤ (store.chanCfg 0).high ∧ (store.chanCfg 0).k ≤ 3 + 1 ∧ 0 < (store.chanCfg 5).low ∧
    (store.chanCfg 5).low ≤ (store.chanCfg 5).high ∧ store.analog[5]? = some Chan.startUp := by
  refine ⟨store_sized, ?_⟩; decide

/-- Channels 1 and 5 evaluated alone, on each side of the window and of the hysteresis. -/
theorem witness_AnalogMonitor_window :
    let ch : Chan := ⟨500, .inside, 3, 3, true, none⟩
    let low : Chan := ⟨0, .low, 0, 0, true, none⟩
    let s := { limited 0 (.raising 60) true false false with analog := store.analog.set 1 ch }
    let r := { store with analog := store.analog.set 5 low }
    (s.analog[1]? = some ch ∧ s.shutters.slots[1 - 1]? = some (some ⟨0, 0⟩) ∧
      s.shutter? 0 = some ⟨.raising 60, true, false, 0, false⟩ ∧ (s.chanCfg 1).high < 901 ∧ (s.chanCfg 1).k ≤ ch.above + 1) ∧
    (∀ d ∈ [0, 2, 3, 4, 5], (s.analog[d]?).any (fun x => x.evaluated) = false) ∧
    (r.analog[5]? = some low ∧ (r.chanCfg 5).low + (r.chanCfg 5).h ≤ 720 ∧ 720 + (r.chanCfg 5).h ≤ (r.chanCfg 5).high ∧
      719 < (r.chanCfg 5).low + (r.chanCfg 5).h ∧ 699 < (r.chanCfg 5).low ∧ r.loop.good = true) ∧
    (∀ d ∈ [0, 1, 2, 3, 4], (r.analog[d]?).any (fun x => x.evaluated) = false) ∧
    ({ ch with blanking := some 0 }.blanking ≠ none) := by decide

/-- Channel 5 alone evaluated, one sample above its low threshold short of LOW, with shutter 0 RAISING. -/
def sagging : State :=
  { limited 0 (.raising 60) true false false with analog := store.analog.set 5 ⟨800, .inside, 0, 3, true, none⟩ }

theorem witness_AnalogMonitor_supply : sagging.sized ∧
    (∀ (c : Nat), c < 5 → ∀ x : Chan, sagging.analog[c]? = some x → x.evaluated = false) ∧
    sagging.analog[5]? = some ⟨800, .inside, 0, 3, true, none⟩ ∧ 699 < (sagging.chanCfg 5).low ∧ 0 < (sagging.chanCfg 5).low ∧
    (sagging.chanCfg 5).low ≤ (sagging.chanCfg 5).high ∧ (sagging.chanCfg 5).k ≤ 3 + 1 ∧ sagging.faults.records.length < 32 ∧
    sagging.shutters.listsAgree := by
  refine ⟨⟨rfl, rfl, rfl, rfl, rfl, by decide +kernel, rfl, ⟨rfl, rfl, rfl⟩, by decide, fun _ h => nomatch h⟩,
    fun c hc x h => ?_, rfl, by decide, by decide, by decide, by decide, by decide, by unfold Shutters.listsAgree; decide +kernel⟩
  match c, hc, h with
  | 0, _, h | 1, _, h | 2, _, h | 3, _, h | 4, _, h => cases h; rfl

/-- R79: the fall of the supply to LOW stops the RAISING shutter, which waits for UP with its hold kept. -/
theorem test_supply_low_stops :
    (after (.analogSample [0, 0, 0, 0, 0, 699]) sagging).shutters =
      ⟨[⟨.waitSlot .up, true, false, 1728032400, false⟩, ⟨.opened, true, false, 0, false⟩], [none, none], [0], []⟩ := by decide +kernel

theorem witness_Configuration :
    let s := { store with floors := { store.floors with table := [floor .closed 1, floor .closed 0] } }
    (s.mayAsk .E 72 ∧ s.store.shadow = none ∧ s.configQuiet = true ∧ s.store.eng = some eng) ∧ store.configQuiet = false ∧
    (s.mayAsk .E 74 ∧ firstFailure Eng.zero s.store.op.raw ≠ none ∧ firstFailure eng s.store.op.raw = none) ∧
    (let u := { loading with store := { loading.store with state := .unconfigured } };
      u.mayAsk .E 74 ∧ u.configQuiet = true ∧ u.store.eng = none) := by
  unfold State.mayAsk; decide +kernel

set_option maxRecDepth 100000 in
/-- The bytes of the test installation are a shadow of 799 bytes that reads back as it and passes every check. -/
theorem witness_Configuration_shadow : eng.bytes.length = 799 ∧ Eng.ofBytes eng.bytes = eng ∧
    firstFailure (Eng.ofBytes eng.bytes) Op.default.raw = none := by decide +kernel

/-- Quiet, the session open with the parameters of the tests, an announcement queued and slot 4 on air with a copy pending. -/
def editing (ph : PlayPhase) (p : PortState) : State :=
  { store with
    floors := { store.floors with table := [floor .closed 1, floor .closed 0] }
    shutters := { store.shutters with table := List.replicate 2 ⟨.closed, false, false, 0, false⟩ }
    store := { store.store with shadow := some eng.bytes }
    announce :=
      { store.announce with
        playout := some (playout ph), queue := [⟨5, .office, 0, none⟩], port := port p true
        pendingCopies := store.announce.pendingCopies.set 4 (some ⟨[7], 1⟩) } }

theorem witness_Configuration_announce :
    (∀ ph ∈ [PlayPhase.lead, .phrase, .tail], ∀ p ∈ [PortState.idle, .starting, .playing],
      let s := editing ph p
      s.mayAsk .E 74 ∧ s.store.shadow = some eng.bytes ∧ s.configQuiet = true ∧ s.store.state = .supervising ∧
        s.announce.playout = some (playout ph) ∧ s.announce.port.state = p ∧
        s.announce.pendingCopies[(playout ph).slot]? = some (some ⟨[7], 1⟩)) ∧
    store.announce.playout = none := by
  unfold State.mayAsk; decide +kernel

set_option maxRecDepth 100000 in
/-- R161, R146: the apply cuts the phrase, ends the playout ABORTED and takes up the copy. -/
theorem test_apply_announce :
    let t := after (.configEnd .E) (editing .phrase .playing)
    t.announce.queue = [] ∧ t.announce.playout = some { playout .phrase with phase := .tail, outcome := some .aborted, timer := 500 } ∧
      t.announce.port.outbox = [.abort] ∧ t.copy? 4 = some ⟨[7], 1⟩ := by decide +kernel

set_option maxRecDepth 100000 in
/-- R143, R132: an apply with a record of the day before still WAITING skips its stages, and rebuilds it for the current day. -/
theorem test_apply_plan :
    (after (.configEnd .E) { editing .lead .idle with plan := { Plan.blank 19999 with baseClose := some 1727978400, status := .waiting } }).plan =
      { Plan.blank 20000 with baseClose := some 1728064800, status := .waiting } := by decide +kernel

theorem witness_Saving : (store.mayAsk .E 49 ∧ store.store.eng = some eng ∧ store.store.save = none) ∧
    (Save.mk [1] (some 0) 0 2000).page = some 0 ∧ (Save.mk [1] none 10 0).page = none ∧
    ([2] : List Byte).take 1 ≠ [1] := by unfold State.mayAsk; decide

theorem witness_ImageRoundTrip : eng.fits = true ∧ op.fits eng.floorCount = true ∧ firstFailure eng op.raw = none := by
  decide +kernel

theorem witness_SizesKept : store.sized ∧ ∃ t, step store = .next t := ⟨store_sized, _, rfl⟩

theorem witness_EvacKeepsSlot7 :
    let s := withAnnounce { store.announce with queue := [⟨7, .evac, 0, some 5⟩, ⟨1, .closing, 0, none⟩], playout := some (playout .lead) }
    s.announce.evacSlot ∧ ∃ t, step s = .next t := by
  refine ⟨⟨by decide, fun p h => ?_⟩, _, rfl⟩
  cases h
  decide

end Sys2Proof.Tests
end

section
/-! How a request is taken, said once: the events that the links take on the way (R186), the refreshed supervision (R184) and the
reply made ready (R182), so that an owner's effect alone settles `State.acceptedWith` and `State.answeredOnly`. -/

namespace Sys2Proof.Proofs

open Sys2Proof.Machine

/-! ### A link that takes events -/

theorem takesEventsOnly_iff {k k' : Link} : k.takesEventsOnly k' ↔
    ∃ ls cs a, k' = { k with latches := ls, companions := cs, attention := a } :=
  ⟨fun h => ⟨_, _, _, h⟩, by rintro ⟨ls, cs, a, rfl⟩; rfl⟩

theorem takesEventsOnly_refl (k : Link) : k.takesEventsOnly k := rfl

theorem takesEventsOnly_trans {a b c : Link} (h : a.takesEventsOnly b) (g : b.takesEventsOnly c) : a.takesEventsOnly c := by
  obtain ⟨_, _, _, rfl⟩ := takesEventsOnly_iff.mp h
  obtain ⟨_, _, _, rfl⟩ := takesEventsOnly_iff.mp g
  rfl

/-- The attention line settles in one of three ways (R188), and nothing else of the link changes. -/
theorem settleAttention_eq (k : Link) : ∃ a, k.settleAttention = { k with attention := a } := by
  unfold Link.settleAttention
  split
  case h_1 => split <;> exact ⟨_, rfl⟩
  case h_2 => split <;> exact ⟨_, rfl⟩
  case h_3 => exact ⟨_, rfl⟩

@[simp] theorem settleAttention_latches (k : Link) : k.settleAttention.latches = k.latches := by
  obtain ⟨a, h⟩ := settleAttention_eq k
  rw [h]

@[simp] theorem takeEvent_latches (e : Event) (k : Link) : (k.takeEvent e).latches = k.latches ||| e.mask := by
  simp [Link.takeEvent]

theorem takeEvent_takesEventsOnly (e : Event) (k : Link) : k.takesEventsOnly (k.takeEvent e) := by
  obtain ⟨a, h⟩ := settleAttention_eq
    { k with latches := k.latches ||| e.mask, companions := k.companions ||| (k.latches &&& e.mask) }
  exact takesEventsOnly_iff.mpr ⟨_, _, a, h⟩

/-! ### The links that take events -/

theorem linksTakeEvents_of_links {s t : State} (h : t.links = s.links) : s.linksTakeEvents t :=
  ⟨by rw [h], fun m => by simp only [State.link, h, takesEventsOnly_refl]⟩

theorem linksTakeEvents_trans {s t u : State} (h : s.linksTakeEvents t) (g : t.linksTakeEvents u) : s.linksTakeEvents u :=
  ⟨g.1.trans h.1, fun m => takesEventsOnly_trans (h.2 m) (g.2 m)⟩

@[simp] theorem link_setEvent (e : Event) (s : State) (m : LinkId) : (setEvent e s).link m = (s.link m).takeEvent e := by
  simp [State.link]

theorem linksTakeEvents_setEvent (e : Event) (s : State) : s.linksTakeEvents (setEvent e s) :=
  ⟨rfl, fun m => by simpa using takeEvent_takesEventsOnly e (s.link m)⟩

theorem linksTakeEvents_endFault (k : FaultKind) (src : Nat) (s : State) : s.linksTakeEvents (endFault k src s) := by
  unfold endFault
  split
  · exact linksTakeEvents_trans (linksTakeEvents_of_links rfl) (linksTakeEvents_setEvent ..)
  · exact linksTakeEvents_of_links rfl

theorem latched_setEvent (e : Event) (s : State) : (setEvent e s).latched e := by
  intro l
  have hbit : e.bit < 16 := by cases e <;> decide
  simp [Event.mask, hbit]

/-! ### The refreshed supervision (R184) and the reply made ready (R182) -/

/-- A valid frame makes the link ACTIVE with its time since a frame at 0 (R184); beyond that the links take events. -/
theorem refresh_links (l : LinkId) (s : State) :
    (s.modLink l fun k => { k with sinceFrame := 0, state := .active }).linksTakeEvents (refresh l s) := by
  unfold refresh
  dsimp only
  split
  case h_1 => exact linksTakeEvents_of_links rfl
  case h_2 => exact linksTakeEvents_setEvent ..
  case h_3 => exact linksTakeEvents_trans (linksTakeEvents_setEvent ..) (linksTakeEvents_endFault ..)

@[simp] theorem refresh_floors (l : LinkId) (s : State) : (refresh l s).floors = s.floors :=
  (refresh_keeps l s).same .floors (by decide)

@[simp] theorem refresh_clock (l : LinkId) (s : State) : (refresh l s).clock = s.clock :=
  (refresh_keeps l s).same .clock (by decide)

@[simp] theorem refresh_store (l : LinkId) (s : State) : (refresh l s).store = s.store :=
  (refresh_keeps l s).same .store (by decide)

@[simp] theorem stageReply_floors (l : LinkId) (kind : Nat) (a : Answer) (s : State) :
    (stageReply l kind a s).floors = s.floors := rfl

@[simp] theorem stageReply_faults (l : LinkId) (kind : Nat) (a : Answer) (s : State) :
    (stageReply l kind a s).faults = s.faults := rfl

theorem stageReply_replies (l : LinkId) (kind : Nat) (a : Answer) (s : State) :
    (stageReply l kind a s).replies l kind a.status a.payload := by
  simp [State.replies, stageReply]

theorem linksTakeRequest_stageReply {l : LinkId} {s u : State} (kind : Nat) (a : Answer)
    (h : (refresh l s).linksTakeEvents u) : s.linksTakeRequest l (stageReply l kind a u) := by
  obtain ⟨address, links⟩ := linksTakeEvents_trans (refresh_links l s) h
  refine ⟨by simpa [stageReply, State.modLink, State.modLinks] using address, fun m => ?_⟩
  have taken := links m
  split
  case isTrue hm =>
    subst hm
    rw [link_modLink_same, takesEventsOnly_iff] at taken
    obtain ⟨ls, cs, a, taken⟩ := taken
    simp only [stageReply, link_modLink_same, taken]
    rfl
  case isFalse hm =>
    rw [link_modLink_other _ _ _ _ hm] at taken
    rwa [stageReply, link_modLink_other _ _ _ _ hm]

/-! ### A request that passes the checks (R180) -/

/-- A request that passes the checks goes to its owner with the supervision refreshed, and the owner's answer is made ready. -/
theorem takeRequest_eq {s : State} {l : LinkId} {kind : Nat} (owner : State → State × Answer) (h : s.mayAsk l kind) :
    takeRequest l kind true owner s = stageReply l kind (owner (refresh l s)).2 (owner (refresh l s)).1 := by
  obtain ⟨hears, may, takes⟩ := h
  simp [takeRequest, checkRequest, hears, may, takes]

/-- An owner that accepts and acts on some blocks leaves the request accepted with those blocks changed. -/
theorem takeRequest_acceptedWith {s u : State} {l : LinkId} {kind : Nat} {owner : State → State × Answer} {payload : List Byte}
    {changed : List Block} (h : s.mayAsk l kind) (ho : owner (refresh l s) = (u, ⟨.accepted, payload⟩))
    (acts : (refresh l s).actsOn changed u) : s.acceptedWith l kind payload changed (takeRequest l kind true owner s) := by
  obtain ⟨keeps, events⟩ := acts
  rw [takeRequest_eq owner h, ho]
  refine ⟨stageReply_replies .., linksTakeRequest_stageReply kind _ events, ?_, ?_⟩
  · refine keeps_step (stageReply_keeps ..) (by simp) (keeps_step keeps (by simp; tauto) ?_)
    exact keeps_mono (refresh_keeps l s) (by simp)
  · simpa [Block.same, stageReply_faults] using keeps.2 .faults

/-- An owner that changes nothing leaves the request answered and nothing else. -/
theorem takeRequest_answeredOnly {s : State} {l : LinkId} {kind : Nat} {owner : State → State × Answer} {st : Status}
    {payload : List Byte} (h : s.mayAsk l kind) (ho : owner (refresh l s) = (refresh l s, ⟨st, payload⟩)) :
    s.answeredOnly l kind st payload (takeRequest l kind true owner s) := by
  rw [takeRequest_eq owner h, ho]
  refine ⟨stageReply_replies .., rfl, ?_, linksTakeRequest_stageReply kind _ (linksTakeEvents_of_links rfl)⟩
  exact keeps_step (stageReply_keeps ..) (by simp) (keeps_mono (refresh_keeps l s) (by simp))

theorem latched_stageReply {l : LinkId} {kind : Nat} {a : Answer} {e : Event} {s : State} (h : s.latched e) :
    (stageReply l kind a s).latched e := by
  intro m
  by_cases hm : m = l
  · subst hm
    simpa [stageReply] using h m
  · simpa [stageReply, link_modLink_other _ _ _ _ hm] using h m

/-! ### A zone asked to be CLEAR (R6) -/

/-- The effect of a ZONE_CLEAR that is accepted: a zone in ALARM becomes CLEAR (R2), and a repeat changes nothing. -/
def clearZone (z : Nat) (s : State) : State := if s.zoneAlarmed z then zoneIntoClear z s else s

theorem ownZoneClear_refused {z : Nat} (h : 15 < z) (s : State) : ownZoneClear z s = (s, ⟨.refusedRange, absent 2⟩) := by
  simp [ownZoneClear, h, decline]

theorem ownZoneClear_accepted {z : Nat} (h : z ≤ 15) (s : State) :
    ownZoneClear z s = (clearZone z s, ⟨.accepted, zonePayload z (clearZone z s)⟩) := by
  simp [ownZoneClear, Nat.not_lt.mpr h, accept, clearZone]

theorem zoneAlarmed_of_zone {z : Nat} {x : Zone} {s : State} (h : s.floors.zones[z]? = some x) : s.zoneAlarmed z = x.alarm := by
  simp [State.zoneAlarmed, h]

theorem clearZone_actsOn (z : Nat) (s : State) : s.actsOn [.floors] (clearZone z s) := by
  unfold clearZone
  split
  · refine ⟨keeps_mono (zoneIntoClear_keeps z s) (by simp), ?_⟩
    exact linksTakeEvents_trans (linksTakeEvents_of_links rfl) (linksTakeEvents_setEvent .zone (s.modZone z _))
  · exact ⟨keeps_refl .., linksTakeEvents_of_links rfl⟩

/-- The zones are all that changes in the Floor and Zone Table: modes, causes and the silence flag keep their values (R6). -/
theorem clearZone_floors (z : Nat) (s : State) :
    (clearZone z s).floors = { s.floors with zones := (clearZone z s).floors.zones } := by
  unfold clearZone
  split <;> rfl

theorem clearZone_zone_same {z : Nat} {x : Zone} {s : State} (h : s.floors.zones[z]? = some x) :
    (clearZone z s).floors.zones[z]? = some (if x.alarm then { x with alarm := false, since := s.clock.count } else x) := by
  unfold clearZone
  rw [zoneAlarmed_of_zone h]
  split
  · simp [zoneIntoClear, getElem?_modAt, h]
  · exact h

theorem clearZone_zone_other {y z : Nat} (h : y ≠ z) (s : State) :
    (clearZone z s).floors.zones[y]? = s.floors.zones[y]? := by
  unfold clearZone
  split
  · simp [zoneIntoClear, getElem?_modAt, h]
  · rfl

/-- A zone that was in ALARM sets ZONE on every link (R2). -/
theorem clearZone_latched {z : Nat} {s : State} (h : s.zoneAlarmed z = true) : (clearZone z s).latched .zone := by
  rw [clearZone, if_pos h]
  exact latched_setEvent .zone _

/-- After the request the zone reads CLEAR, with its floor's mode as it stands (R6). -/
theorem zonePayload_clearZone {z : Nat} {x : Zone} {fl : Floor} {s : State} (hz : s.floors.zones[z]? = some x)
    (hf : s.floors.table[x.floor]? = some fl) : zonePayload z (clearZone z s) = [0] ++ be 1 fl.mode.code := by
  have mode : (clearZone z s).floorMode? x.floor = some fl.mode := by
    rw [State.floorMode?, clearZone_floors]
    simp [hf]
  rw [zonePayload, clearZone_zone_same hz]
  cases hx : x.alarm <;> simp [hx, mode, named, byte, byte?, optField, be]

/-! ### The statement -/

theorem exec_zoneClear (l : LinkId) (z : Nat) (s : State) :
    exec (.zoneClear l z) s = .next (takeRequest l 17 true (ownZoneClear z) s) := rfl

/-- Settles O18: the owner's decision on the refreshed part, whose floors, zones and clock are those before the request. -/
theorem zoneClear : Obligations.ZoneClear := by
  intro l z s may
  rw [exec_zoneClear]
  refine ⟨fun out => ⟨_, rfl, takeRequest_answeredOnly may (ownZoneClear_refused out _)⟩, fun x fl inRange hz hf => ?_⟩
  have own := ownZoneClear_accepted inRange (refresh l s)
  have hz' : (refresh l s).floors.zones[z]? = some x := by rwa [refresh_floors]
  have hf' : (refresh l s).floors.table[x.floor]? = some fl := by rwa [refresh_floors]
  rw [zonePayload_clearZone hz' hf'] at own
  have accepted := takeRequest_acceptedWith may own (clearZone_actsOn z _)
  rw [takeRequest_eq _ may, own] at accepted ⊢
  refine ⟨_, rfl, accepted, ?_, fun y other => ?_, ?_, fun alarm => ?_⟩
  · rw [stageReply_floors, clearZone_zone_same hz', refresh_clock]
  · rw [stageReply_floors, clearZone_zone_other other, refresh_floors]
  · rw [stageReply_floors, clearZone_floors, refresh_floors]
  · exact latched_stageReply (clearZone_latched ((zoneAlarmed_of_zone hz').trans alarm))

end Sys2Proof.Proofs
end

section
/-! The car at a landing (R34): the distance q of the rule as a natural number, and what it is modulo the pitch, so that a level
chain shows the same distance past every landing at the level phase. -/

namespace Sys2Proof.Proofs

open Sys2Proof.Machine

/-! ### The geometry in force -/

theorem eng_of_store {s : State} {e : Eng} (h : s.store.eng = some e) : s.eng = e := by
  simp [State.eng, h]

theorem loopLength_of_store {s : State} {e : Eng} (h : s.store.eng = some e) : s.loopLength = e.cars * e.pitch := by
  rw [State.loopLength, eng_of_store h]

/-! ### The distance round the loop -/

/-- The difference modulo the loop, taken without going below 0. -/
theorem toNat_sub_emod {x len : Nat} (c : Nat) (hx : x < len) :
    (((c : Int) - (x : Int)) % (len : Int)).toNat = (c + len - x) % len := by
  have cast : ((c + len - x : Nat) : Int) = (c : Int) - x + len := by omega
  rw [← Int.toNat_natCast ((c + len - x) % len), Int.natCast_emod, cast, Int.add_emod_right]

/-- The loop is a whole number of pitches, so the distance past a landing is a difference modulo the pitch alone. -/
theorem loopDistance_mod_pitch {cars pitch x : Nat} (c : Nat) (hx : x < cars * pitch) :
    (((c + cars * pitch - x) % (cars * pitch) % pitch : Nat) : Int) = ((c : Int) - (x : Int)) % (pitch : Int) := by
  have cast : ((c + cars * pitch - x : Nat) : Int) = (c : Int) - x + cars * pitch := by
    rw [Nat.cast_sub (by omega)]
    push_cast
    ring
  rw [Nat.mod_mul_left_mod, Int.natCast_emod, cast, Int.add_mul_emod_self_right]

/-! ### The car at a landing and the distance past it -/

theorem carAt_eq {s : State} {e : Eng} {x : Nat} (h : s.store.eng = some e) (hx : x < e.cars * e.pitch) :
    s.carAt x = ((s.tracker.counter + e.cars * e.pitch - x) % (e.cars * e.pitch) / e.pitch,
      (s.tracker.counter + e.cars * e.pitch - x) % (e.cars * e.pitch) % e.pitch) := by
  rw [State.carAt, loopLength_of_store h, eng_of_store h, toNat_sub_emod _ hx]

theorem carAt_car_lt {s : State} {e : Eng} {x : Nat} (h : s.store.eng = some e) (hx : x < e.cars * e.pitch) :
    (s.carAt x).1 < e.cars := by
  rw [carAt_eq h hx]
  exact Nat.div_lt_of_lt_mul (Nat.mul_comm e.cars e.pitch ▸ Nat.mod_lt _ (Nat.zero_lt_of_lt hx))

theorem carAt_past {s : State} {e : Eng} {x : Nat} (h : s.store.eng = some e) (hx : x < e.cars * e.pitch) :
    ((s.carAt x).2 : Int) = ((s.tracker.counter : Int) - (x : Int)) % (e.pitch : Int) := by
  rw [carAt_eq h hx]
  exact loopDistance_mod_pitch _ hx

/-- A landing at the level phase reads the counter's distance past that phase. -/
theorem carAt_past_of_phase {s : State} {e : Eng} {x : Nat} (h : s.store.eng = some e) (hx : x < e.cars * e.pitch)
    (landing : x % e.pitch = e.phase) :
    ((s.carAt x).2 : Int) = ((s.tracker.counter : Int) - (e.phase : Int)) % (e.pitch : Int) := by
  rw [carAt_past h hx, ← landing, Int.natCast_emod, Int.sub_emod_emod]

/-- With the chain level too (R33), no distance is left. -/
theorem carAt_past_of_level {s : State} {e : Eng} {x : Nat} (h : s.store.eng = some e) (hx : x < e.cars * e.pitch)
    (landing : x % e.pitch = e.phase) (level : s.tracker.counter % e.pitch = e.phase) : (s.carAt x).2 = 0 := by
  have past := carAt_past_of_phase h hx landing
  rwa [← level, Int.natCast_emod, Int.sub_emod_emod, Int.sub_self, Int.zero_emod, Int.natCast_eq_zero] at past

/-! ### The statement -/

/-- Settles O27: the quotient and the remainder of q, and q taken modulo the pitch. -/
theorem carAtLanding : Obligations.CarAtLanding := by
  intro e x s h _ _ hx
  exact ⟨carAt_eq h hx, carAt_car_lt h hx, carAt_past_of_level h hx, carAt_past_of_phase h hx⟩

end Sys2Proof.Proofs
end

section
/-! The event requests (R187): each acts on the link that it comes from, after the supervision is refreshed (R184), and on nothing
else; the settling of the attention line leaves the latches, the companions and the mask alone (R188). -/

namespace Sys2Proof.Proofs

open Sys2Proof.Machine

/-! ### A request that acts on its own link -/

/-- A request of a kind that is a read passes the checks of R180 on every link and in every state of the part (R181). -/
theorem mayAsk_of_isRead {s : State} {l : LinkId} (kind : Nat) (hears : s.listening l = true) (read : isRead kind = true) :
    s.mayAsk l kind := by
  refine ⟨hears, by simp [authority, read], ?_⟩
  cases s.store.state <;> simp [configTakes, read]

/-- From `s` to `t` a request of link `l` is accepted that acts, beyond the refreshed supervision and the reply, as `f` on that link. -/
def acceptedOnLink (s : State) (l : LinkId) (kind : Nat) (payload : List Byte) (f : Link → Link) (t : State) : Prop :=
  s.keepsAllBut [.links, .faults] t ∧ t.faults = (refresh l s).faults ∧ t.replies l kind .accepted payload ∧
    t.link l = { f ((refresh l s).link l) with
      reply := some ⟨kind, .accepted, payload⟩, sending := .waiting, startBitSeen := false } ∧
    ∀ m, m ≠ l → t.link m = (refresh l s).link m

theorem takeRequest_acceptedOnLink {s : State} {l : LinkId} {kind : Nat} {owner : State → State × Answer} {payload : List Byte}
    {f : Link → Link} (may : s.mayAsk l kind)
    (ho : owner (refresh l s) = ((refresh l s).modLink l f, ⟨.accepted, payload⟩)) :
    acceptedOnLink s l kind payload f (takeRequest l kind true owner s) := by
  rw [takeRequest_eq owner may, ho]
  refine ⟨?_, rfl, stageReply_replies .., by simp only [stageReply, link_modLink_same], fun m other => ?_⟩
  · refine keeps_step (stageReply_keeps ..) (by simp) (keeps_step (modLink_keeps ..) (by simp) ?_)
    exact keeps_mono (refresh_keeps l s) (by simp)
  · rw [stageReply, link_modLink_other _ _ _ _ other, link_modLink_other _ _ _ _ other]

/-! ### What the three requests do to their link -/

@[simp] theorem settleAttention_companions (k : Link) : k.settleAttention.companions = k.companions := by
  obtain ⟨a, h⟩ := settleAttention_eq k
  rw [h]

@[simp] theorem settleAttention_mask (k : Link) : k.settleAttention.mask = k.mask := by
  obtain ⟨a, h⟩ := settleAttention_eq k
  rw [h]

/-- READ_EVENTS clears every companion. -/
def clearCompanions (k : Link) : Link := { k with companions := 0 }

/-- SET_EVENT_MASK gives the mask its value, and the attention line follows. -/
def setMask (mask : Word) (k : Link) : Link := { k with mask := mask }.settleAttention

@[simp] theorem acknowledge_mask (set : Word) (k : Link) : (k.acknowledge set).mask = k.mask := by
  simp [Link.acknowledge]

/-- A named event whose latch is set and whose companion is clear loses its latch. -/
theorem acknowledge_latches_bit (set : Word) (k : Link) {n : Nat} (h : n < 16) :
    (k.acknowledge set).latches.getLsbD n =
      (k.latches.getLsbD n && !(set.getLsbD n && !k.companions.getLsbD n)) := by
  simp [Link.acknowledge, h]

/-- A named event whose latch and companion are set loses its companion. -/
theorem acknowledge_companions_bit (set : Word) (k : Link) {n : Nat} (h : n < 16) :
    (k.acknowledge set).companions.getLsbD n =
      (k.companions.getLsbD n && !(set.getLsbD n && k.latches.getLsbD n)) := by
  simp [Link.acknowledge, h]

@[simp] theorem setMask_mask (mask : Word) (k : Link) : (setMask mask k).mask = mask := by
  simp [setMask]

@[simp] theorem setMask_latches (mask : Word) (k : Link) : (setMask mask k).latches = k.latches := by
  simp [setMask]

@[simp] theorem setMask_companions (mask : Word) (k : Link) : (setMask mask k).companions = k.companions := by
  simp [setMask]

/-! ### The owners' decisions -/

theorem ownReadEvents_eq (l : LinkId) (s : State) : ownReadEvents l s = (s.modLink l clearCompanions,
    ⟨.accepted, be 2 (s.link l).latches.toNat ++ be 2 (s.link l).companions.toNat ++ be 2 (s.link l).mask.toNat
      ++ be 1 (s.link l).attention.code⟩) := rfl

theorem ownAckEvents_eq (l : LinkId) (set : Word) (s : State) : ownAckEvents l set s = (s.modLink l (Link.acknowledge set),
    ⟨.accepted, be 2 ((s.link l).acknowledge set).latches.toNat ++ be 2 ((s.link l).acknowledge set).companions.toNat⟩) := by
  simp only [ownAckEvents, accept, link_modLink_same]

theorem ownSetMask_eq (l : LinkId) (mask : Word) (s : State) :
    ownSetMask l mask s = (s.modLink l (setMask mask), ⟨.accepted, be 2 mask.toNat⟩) := by
  simp only [ownSetMask, accept, link_modLink_same, settleAttention_mask]
  rfl

/-! ### The statement -/

theorem exec_readEvents (l : LinkId) (s : State) :
    exec (.readEvents l) s = .next (takeRequest l 13 true (ownReadEvents l) s) := rfl

theorem exec_ackEvents (l : LinkId) (set : Word) (s : State) :
    exec (.ackEvents l set) s = .next (takeRequest l 14 true (ownAckEvents l set) s) := rfl

theorem exec_setEventMask (l : LinkId) (mask : Word) (s : State) :
    exec (.setEventMask l mask) s = .next (takeRequest l 15 true (ownSetMask l mask) s) := rfl

/-- Settles O14: each request is accepted on its own link, and what it does there is read off the link after it. -/
theorem eventRequests : Obligations.EventRequests := by
  intro l s hears k
  refine ⟨⟨_, exec_readEvents l s, ?_⟩, fun set => ⟨_, exec_ackEvents l set s, ?_⟩,
    fun mask => ⟨_, exec_setEventMask l mask s, ?_⟩⟩
  · obtain ⟨keeps, faults, replies, own, others⟩ :=
      takeRequest_acceptedOnLink (mayAsk_of_isRead 13 hears (by decide)) (ownReadEvents_eq l (refresh l s))
    rw [own]
    exact ⟨keeps, faults, replies, rfl, rfl, rfl, rfl, others⟩
  · obtain ⟨keeps, faults, replies, own, others⟩ :=
      takeRequest_acceptedOnLink (mayAsk_of_isRead 14 hears (by decide)) (ownAckEvents_eq l set (refresh l s))
    rw [own]
    exact ⟨keeps, faults, replies, acknowledge_mask set k, others,
      fun n inSet => ⟨acknowledge_latches_bit set k inSet, acknowledge_companions_bit set k inSet⟩⟩
  · obtain ⟨keeps, faults, replies, own, others⟩ :=
      takeRequest_acceptedOnLink (mayAsk_of_isRead 15 hears (by decide)) (ownSetMask_eq l mask (refresh l s))
    rw [own]
    exact ⟨keeps, faults, replies, setMask_mask mask k, setMask_latches mask k, setMask_companions mask k, others⟩

end Sys2Proof.Proofs
end
